-- ==== Sys2Proof/Word.lean ====
section
/-! DEFINITION. The plain types of the CS3210's quantities: bytes of the links, numbers of ports, lanes and slots. -/

namespace Sys2Proof

/-- One byte of a link frame (chapter 9). -/
abbrev Byte := BitVec 8

/-- A port number, P0 to P31 (R58). -/
abbrev Port := Fin 32

/-- A lane number (R85). -/
abbrev LaneId := Fin 4

/-- A message slot number (R152). -/
abbrev SlotId := Fin 12

/-- The 32 ports in port order from P0. -/
def allPorts : List Port :=
  [0, 1, 2, 3, 4, 5, 6, 7, 8, 9, 10, 11, 12, 13, 14, 15,
   16, 17, 18, 19, 20, 21, 22, 23, 24, 25, 26, 27, 28, 29, 30, 31]

/-- The four lanes in lane number order. -/
def allLanes : List LaneId := [0, 1, 2, 3]

/-- The twelve message slots in number order. -/
def allSlots : List SlotId := [0, 1, 2, 3, 4, 5, 6, 7, 8, 9, 10, 11]

end Sys2Proof
end

