-- ==== Sys2Proof/Syntax.lean ====
section
/-! DEFINITION. The commands of the CS3210: one constructor of `Instr` for each row of spec/opcode_table.json. -/

namespace Sys2Proof

/-- The two links (chapter 9): the operator's and the building's. -/
inductive Link where
  | oLink
  | bLink
deriving DecidableEq, Repr

/-- The request kinds sent down a feed pair (R86), in the order of their codes. -/
inductive RequestKind where
  | wake
  | poll
  | batteryQuery
  | drawQuery
  | testBegin
  | release
deriving DecidableEq, Repr

/-- The two origin classes of signalling entries (R95): TEST, and every other origin together. -/
inductive OriginClass where
  | test
  | other
deriving DecidableEq, Repr

/-- Why a frame is bad (R158). -/
inductive BadFrameCause where
  | crcMismatch
  | lengthAbove24
  | stopBitMissing
  | cutOff
deriving DecidableEq, Repr

/-- The inputs of the 35 channels as one scan finds them (R18), before range and step are applied: the bank voltage
in mV, the signed bank current in mA, the feed-bus voltage in mV and the 32 port currents in mA. -/
structure Readings where
  vBank : Int
  iBank : Int
  vFeed : Int
  iPort : Vector Int 32
deriving DecidableEq, Repr

/-- What a port's sense front end finds at one sample of its pair (R88): the pair current and the slow average current, in
mA. -/
structure PairSample where
  current : Nat
  average : Nat
deriving DecidableEq, Repr

/-- What a port's sense front end finds of its pair in one ms (R69): the pair current in mA and the pair voltage in mV. -/
structure PairReading where
  current : Nat
  voltage : Nat
deriving DecidableEq, Repr

/-- The commands. A master's command carries the link it arrived on, the address byte of its frame and its parameter
bytes; a `samples` operand is what the comparator of a feed pair finds, one sample each 0.25 ms (R88, R90). -/
inductive Instr where
  /-- POWER_ON_RESET (R15): the supply is established and the reset ends, with the MAINS_OK sample and the straps. -/
  | powerOnReset (mainsOk : Bool) (straps : Fin 32)
  /-- HARD_RESET (R16): RESET driven low. -/
  | hardReset
  /-- HARD_RESET_END (R16): RESET returns high, with the MAINS_OK sample and the straps. -/
  | hardResetEnd (mainsOk : Bool) (straps : Fin 32)
  /-- MAINS_OK_CHANGE (R5): the 1 ms sample of MAINS_OK becomes `present`. -/
  | mainsOkChange (present : Bool)
  /-- LEVEL_SAMPLE (R6): the sample used each 100 ms in LEVEL style. -/
  | levelSample (present : Bool)
  /-- OUTAGE_TIMER_EXPIRY (R5): the EDGE outage timer reaches T_q. -/
  | outageTimerExpiry
  /-- RESTORE_TIMER_EXPIRY (R5): the EDGE restore timer reaches T_r. -/
  | restoreTimerExpiry
  /-- SECOND_TICK (R2). -/
  | secondTick
  /-- SCAN_COMPLETE (R19): channel 35 has been converted. -/
  | scanComplete (readings : Readings)
  /-- PASS_COMPLETE (R52): the pass in progress ends its walks. -/
  | passComplete
  /-- TRIP (R69): the pair current in mA at this moment, and what the sense front end has found of the pair up to it, one
  reading each ms. -/
  | trip (port : Port) (milliamps : Nat) (readings : List PairReading)
  /-- RETRY_WAIT_END (R72). -/
  | retryWaitEnd (port : Port)
  /-- NOT_BEFORE_REACHED (R100), of the entry with this port, kind and origin class. -/
  | notBeforeReached (port : Port) (kind : RequestKind) (cls : OriginClass)
  /-- BURSTS_END (R101). -/
  | burstsEnd (lane : LaneId)
  /-- REPLY_DECODED (R89): the samples since the window opened, or since the lane's last event, complete a reply. -/
  | replyDecoded (lane : LaneId) (samples : List PairSample)
  /-- REPLY_SYMBOL_FAILURE (R91). -/
  | replySymbolFailure (lane : LaneId) (samples : List PairSample)
  /-- WINDOW_CLOSE (R92). -/
  | windowClose (lane : LaneId) (samples : List PairSample)
  /-- FLAG_IN_WINDOW (R94). -/
  | flagInWindow (lane : LaneId) (samples : List PairSample)
  /-- TERMINAL_FLAG (R93): the samples since the port's flag detector was armed, or since its last flag. -/
  | terminalFlag (port : Port) (samples : List PairSample)
  /-- ENTRY_EXPIRY (R98), of the entry with this port, kind and origin class. -/
  | entryExpiry (port : Port) (kind : RequestKind) (cls : OriginClass)
  /-- SETTLE_TIMER_EXPIRY (R113). -/
  | settleTimerExpiry (port : Port)
  /-- WAKE_EXPIRY (R114). -/
  | wakeExpiry (port : Port)
  /-- DWELL_EXPIRY (R129). -/
  | dwellExpiry (port : Port)
  /-- LINE_SILENCE (R157): more than 5 ms without a byte. -/
  | lineSilence (link : Link)
  /-- BAD_FRAME (R158). -/
  | badFrame (link : Link) (cause : BadFrameCause)
  /-- FRAME_ADDRESS_DISCARD (R159, R160): a good frame that the address rules do not accept. -/
  | frameAddressDiscard (link : Link) (addr code : Byte) (params : List Byte)
  /-- FRAME_OVERRUN (R161): an acceptable frame while a command of the link is in flight. -/
  | frameOverrun (link : Link) (addr code : Byte) (params : List Byte)
  /-- UNKNOWN_CMD (R162): an accepted frame whose code is no command's. -/
  | unknownCmd (link : Link) (addr code : Byte) (params : List Byte)
  /-- REPLY_SENT (R164): the last byte of a reply is sent. -/
  | replySent (link : Link)
  /-- ATTN_PULSE_END (R172). -/
  | attnPulseEnd (link : Link)
  /-- SETTINGS_WRITE_END (R188). -/
  | settingsWriteEnd
  | portSet (link : Link) (addr : Byte) (params : List Byte)
  | portDraw (link : Link) (addr : Byte) (params : List Byte)
  | portClear (link : Link) (addr : Byte) (params : List Byte)
  | lineRestore (link : Link) (addr : Byte) (params : List Byte)
  | wake (link : Link) (addr : Byte) (params : List Byte)
  | poll (link : Link) (addr : Byte) (params : List Byte)
  | testRequest (link : Link) (addr : Byte) (params : List Byte)
  | testAbort (link : Link) (addr : Byte) (params : List Byte)
  | setHold (link : Link) (addr : Byte) (params : List Byte)
  | setBank (link : Link) (addr : Byte) (params : List Byte)
  | setReserve (link : Link) (addr : Byte) (params : List Byte)
  | buildingLimit (link : Link) (addr : Byte) (params : List Byte)
  | setOcvPart0 (link : Link) (addr : Byte) (params : List Byte)
  | setOcvPart1 (link : Link) (addr : Byte) (params : List Byte)
  | setMains (link : Link) (addr : Byte) (params : List Byte)
  | setRing (link : Link) (addr : Byte) (params : List Byte)
  | setTest (link : Link) (addr : Byte) (params : List Byte)
  | setWake (link : Link) (addr : Byte) (params : List Byte)
  | readStatus (link : Link) (addr : Byte) (params : List Byte)
  | readMeasure (link : Link) (addr : Byte) (params : List Byte)
  | readBudget (link : Link) (addr : Byte) (params : List Byte)
  | readPort (link : Link) (addr : Byte) (params : List Byte)
  | readPortNext (link : Link) (addr : Byte) (params : List Byte)
  | readResult (link : Link) (addr : Byte) (params : List Byte)
  | seekResult (link : Link) (addr : Byte) (params : List Byte)
  | setFollow (link : Link) (addr : Byte) (params : List Byte)
  | slotConfigure (link : Link) (addr : Byte) (params : List Byte)
  | slotRead (link : Link) (addr : Byte) (params : List Byte)
  | slotRelease (link : Link) (addr : Byte) (params : List Byte)
  | readNotices (link : Link) (addr : Byte) (params : List Byte)
  | setNoticeMask (link : Link) (addr : Byte) (params : List Byte)
  | setAttn (link : Link) (addr : Byte) (params : List Byte)
  | readCounters (link : Link) (addr : Byte) (params : List Byte)
  | saveSettings (link : Link) (addr : Byte) (params : List Byte)
  | restart (link : Link) (addr : Byte) (params : List Byte)
  /-- LOSS_OF_SUPPLY (R188). -/
  | lossOfSupply
  /-- BYTE_IGNORED_UNTIL_SILENCE (R157). -/
  | byteIgnoredUntilSilence (link : Link) (byte : Byte)
deriving DecidableEq, Repr

/-- A command frame of a link as its framer hands it on (section 9.1). -/
structure Frame where
  link : Link
  addr : Byte
  code : Byte
  params : List Byte
deriving DecidableEq, Repr

end Sys2Proof
end

