-- ==== Sys2Proof/WellFormed.lean ====
section
/-! DEFINITION. Which commands are well formed: what a frame can carry, and what an event row can be about. `frame?` gives
the frame that a master's command stands for, with its code of chapter 10. -/

namespace Sys2Proof

/-- The codes of the commands of chapter 10. -/
def commandCodes : List Byte :=
  [0x10, 0x11, 0x12, 0x13, 0x14, 0x15, 0x16, 0x17, 0x20, 0x21, 0x22, 0x23,
   0x24, 0x25, 0x26, 0x28, 0x29, 0x30, 0x31, 0x32, 0x33, 0x34, 0x38, 0x39,
   0x3A, 0x40, 0x41, 0x42, 0x48, 0x49, 0x4A, 0x4B, 0x50, 0x51]

/-- The code of a frame is a command code, its top bit clear (section 9.1). -/
def isCommandCode (code : Byte) : Bool := code.msb = false

/-- The frame of a command, of an unknown command and of a frame row; an event has none. -/
def Instr.frame? : Instr → Option Frame
  | .portSet l a ps => some ⟨l, a, 0x10, ps⟩
  | .portDraw l a ps => some ⟨l, a, 0x11, ps⟩
  | .portClear l a ps => some ⟨l, a, 0x12, ps⟩
  | .lineRestore l a ps => some ⟨l, a, 0x13, ps⟩
  | .wake l a ps => some ⟨l, a, 0x14, ps⟩
  | .poll l a ps => some ⟨l, a, 0x15, ps⟩
  | .testRequest l a ps => some ⟨l, a, 0x16, ps⟩
  | .testAbort l a ps => some ⟨l, a, 0x17, ps⟩
  | .setHold l a ps => some ⟨l, a, 0x20, ps⟩
  | .setBank l a ps => some ⟨l, a, 0x21, ps⟩
  | .setReserve l a ps => some ⟨l, a, 0x22, ps⟩
  | .buildingLimit l a ps => some ⟨l, a, 0x23, ps⟩
  | .setOcvPart0 l a ps => some ⟨l, a, 0x24, ps⟩
  | .setOcvPart1 l a ps => some ⟨l, a, 0x24, ps⟩
  | .setMains l a ps => some ⟨l, a, 0x25, ps⟩
  | .setRing l a ps => some ⟨l, a, 0x26, ps⟩
  | .setTest l a ps => some ⟨l, a, 0x28, ps⟩
  | .setWake l a ps => some ⟨l, a, 0x29, ps⟩
  | .readStatus l a ps => some ⟨l, a, 0x30, ps⟩
  | .readMeasure l a ps => some ⟨l, a, 0x31, ps⟩
  | .readBudget l a ps => some ⟨l, a, 0x32, ps⟩
  | .readPort l a ps => some ⟨l, a, 0x33, ps⟩
  | .readPortNext l a ps => some ⟨l, a, 0x34, ps⟩
  | .readResult l a ps => some ⟨l, a, 0x38, ps⟩
  | .seekResult l a ps => some ⟨l, a, 0x39, ps⟩
  | .setFollow l a ps => some ⟨l, a, 0x3A, ps⟩
  | .slotConfigure l a ps => some ⟨l, a, 0x40, ps⟩
  | .slotRead l a ps => some ⟨l, a, 0x41, ps⟩
  | .slotRelease l a ps => some ⟨l, a, 0x42, ps⟩
  | .readNotices l a ps => some ⟨l, a, 0x48, ps⟩
  | .setNoticeMask l a ps => some ⟨l, a, 0x49, ps⟩
  | .setAttn l a ps => some ⟨l, a, 0x4A, ps⟩
  | .readCounters l a ps => some ⟨l, a, 0x4B, ps⟩
  | .saveSettings l a ps => some ⟨l, a, 0x50, ps⟩
  | .restart l a ps => some ⟨l, a, 0x51, ps⟩
  | .frameAddressDiscard l a c ps => some ⟨l, a, c, ps⟩
  | .frameOverrun l a c ps => some ⟨l, a, c, ps⟩
  | .unknownCmd l a c ps => some ⟨l, a, c, ps⟩
  | .powerOnReset _ _ | .hardReset | .hardResetEnd _ _ | .mainsOkChange _ | .levelSample _
  | .outageTimerExpiry | .restoreTimerExpiry | .secondTick | .scanComplete _ | .passComplete | .trip _ _ _
  | .retryWaitEnd _ | .notBeforeReached _ _ _ | .burstsEnd _ | .replyDecoded _ _ | .replySymbolFailure _ _
  | .windowClose _ _ | .flagInWindow _ _ | .terminalFlag _ _ | .entryExpiry _ _ _ | .settleTimerExpiry _
  | .wakeExpiry _ | .dwellExpiry _ | .lineSilence _ | .badFrame _ _ | .replySent _ | .attnPulseEnd _
  | .settingsWriteEnd | .lossOfSupply | .byteIgnoredUntilSilence _ _ => none

/-- The parameter bytes that a frame can carry (section 9.1): up to 24 under a command code, up to 255 in a reply. -/
def Frame.fits (f : Frame) : Bool := if isCommandCode f.code then f.params.length ≤ 24 else f.params.length ≤ 255

/-- A request kind and an origin class that an entry can have together (R95): the Test Engine requests BATTERY-QUERY and
TEST-BEGIN, and TEST-BEGIN is requested by no other origin. -/
def kindFits (k : RequestKind) (c : OriginClass) : Bool :=
  match k, c with
  | .batteryQuery, _ | .testBegin, .test => true
  | .testBegin, .other => false
  | .wake, c | .poll, c | .drawQuery, c | .release, c => c = .other

/-- The checks of each constructor. -/
def Instr.wellFormed (i : Instr) : Bool :=
  match i with
  | .notBeforeReached _ k c => kindFits k c
  | .entryExpiry _ k c => c = .other && k ≠ .wake && k ≠ .testBegin
  | .unknownCmd _ _ c ps => isCommandCode c && decide (c ∉ commandCodes) && ps.length ≤ 24
  | .frameOverrun _ _ c ps => isCommandCode c && ps.length ≤ 24
  | .frameAddressDiscard l a c ps => Frame.fits ⟨l, a, c, ps⟩
  | .setOcvPart0 _ _ ps => ps.head? ≠ some 1 && ps.length ≤ 24
  | .setOcvPart1 _ _ ps => ps.head? = some 1 && ps.length ≤ 24
  | .portSet _ _ ps | .portDraw _ _ ps | .portClear _ _ ps | .lineRestore _ _ ps | .wake _ _ ps
  | .poll _ _ ps | .testRequest _ _ ps | .testAbort _ _ ps | .setHold _ _ ps | .setBank _ _ ps
  | .setReserve _ _ ps | .buildingLimit _ _ ps | .setMains _ _ ps | .setRing _ _ ps | .setTest _ _ ps
  | .setWake _ _ ps | .readStatus _ _ ps | .readMeasure _ _ ps | .readBudget _ _ ps | .readPort _ _ ps
  | .readPortNext _ _ ps | .readResult _ _ ps | .seekResult _ _ ps | .setFollow _ _ ps
  | .slotConfigure _ _ ps | .slotRead _ _ ps | .slotRelease _ _ ps | .readNotices _ _ ps
  | .setNoticeMask _ _ ps | .setAttn _ _ ps | .readCounters _ _ ps | .saveSettings _ _ ps | .restart _ _ ps => ps.length ≤ 24
  | .powerOnReset _ _ | .hardReset | .hardResetEnd _ _ | .mainsOkChange _ | .levelSample _
  | .outageTimerExpiry | .restoreTimerExpiry | .secondTick | .scanComplete _ | .passComplete | .trip _ _ _
  | .retryWaitEnd _ | .burstsEnd _ | .replyDecoded _ _ | .replySymbolFailure _ _ | .windowClose _ _
  | .flagInWindow _ _ | .terminalFlag _ _ | .settleTimerExpiry _ | .wakeExpiry _ | .dwellExpiry _
  | .lineSilence _ | .badFrame _ _ | .replySent _ | .attnPulseEnd _ | .settingsWriteEnd | .lossOfSupply
  | .byteIgnoredUntilSilence _ _ => true

end Sys2Proof
end

