-- ==== Sys2Proof/Decode.lean ====
section
/-! DEFINITION. Frames on the links (section 9.1): the CRC-8, the bytes of a frame, and the framer's reading of the bytes
that arrive between two silences. The opcode table gives its rows no bits, so `decodeTableWord` reads nothing. -/

namespace Sys2Proof

/-- The opcode table gives none of its rows a bit, so no word spells a command (log entry 13). -/
def decodeTableWord (_nbits _w : Nat) : Option Instr := none

/-- One bit of the CRC: a shift, and the polynomial 0x07 when a 1 leaves the top (section 9.1). -/
def crcShift (c : Byte) : Byte := if c.msb then (c <<< 1) ^^^ 0x07 else c <<< 1

/-- One byte taken into the CRC, its most significant bit first. -/
def crcByte (c b : Byte) : Byte :=
  crcShift (crcShift (crcShift (crcShift (crcShift (crcShift (crcShift (crcShift (c ^^^ b))))))))

/-- The CRC-8 of a list of bytes, from 0x00. -/
def crc8 (bytes : List Byte) : Byte := bytes.foldl crcByte 0

/-- The bytes of a frame (section 9.1): the sync byte, the address, the code, the length, the parameters, the CRC. -/
def frameBytes (addr code : Byte) (params : List Byte) : List Byte :=
  let body := addr :: code :: BitVec.ofNat 8 params.length :: params
  0xA5 :: (body ++ [crc8 body])

/-- The command that a good command frame stands for: by its code, and for SET-OCV by its part. -/
def commandOf (l : Link) (addr code : Byte) (ps : List Byte) : Instr :=
  match code.toNat with
  | 0x10 => .portSet l addr ps
  | 0x11 => .portDraw l addr ps
  | 0x12 => .portClear l addr ps
  | 0x13 => .lineRestore l addr ps
  | 0x14 => .wake l addr ps
  | 0x15 => .poll l addr ps
  | 0x16 => .testRequest l addr ps
  | 0x17 => .testAbort l addr ps
  | 0x20 => .setHold l addr ps
  | 0x21 => .setBank l addr ps
  | 0x22 => .setReserve l addr ps
  | 0x23 => .buildingLimit l addr ps
  | 0x24 => if ps.head? = some 1 then .setOcvPart1 l addr ps else .setOcvPart0 l addr ps
  | 0x25 => .setMains l addr ps
  | 0x26 => .setRing l addr ps
  | 0x28 => .setTest l addr ps
  | 0x29 => .setWake l addr ps
  | 0x30 => .readStatus l addr ps
  | 0x31 => .readMeasure l addr ps
  | 0x32 => .readBudget l addr ps
  | 0x33 => .readPort l addr ps
  | 0x34 => .readPortNext l addr ps
  | 0x38 => .readResult l addr ps
  | 0x39 => .seekResult l addr ps
  | 0x3A => .setFollow l addr ps
  | 0x40 => .slotConfigure l addr ps
  | 0x41 => .slotRead l addr ps
  | 0x42 => .slotRelease l addr ps
  | 0x48 => .readNotices l addr ps
  | 0x49 => .setNoticeMask l addr ps
  | 0x4A => .setAttn l addr ps
  | 0x4B => .readCounters l addr ps
  | 0x50 => .saveSettings l addr ps
  | 0x51 => .restart l addr ps
  | _ => .unknownCmd l addr code ps

/-- The framer's reading of the bytes of a link between two silences (R157, R158), with what it hands on: a command, an
unknown command, another unit's reply, a bad frame, or the first byte of what it ignores. Bytes after the CRC byte are
ignored. -/
def decodeFrame (l : Link) (bytes : List Byte) : Option Instr :=
  match bytes with
  | [] => none
  | sync :: rest =>
    if sync ≠ 0xA5 then some (.byteIgnoredUntilSilence l sync)
    else
      match rest with
      | addr :: code :: len :: tail =>
        if isCommandCode code = true ∧ 24 < len.toNat then some (.badFrame l .lengthAbove24)
        else
          match tail.drop len.toNat with
          | [] => some (.badFrame l .cutOff)
          | crc :: _ =>
            let ps := tail.take len.toNat
            if crc ≠ crc8 (addr :: code :: len :: ps) then some (.badFrame l .crcMismatch)
            else if isCommandCode code then some (commandOf l addr code ps)
            else some (.frameAddressDiscard l addr code ps)
      | _ => some (.badFrame l .cutOff)

/-- The bytes that a master sends for a command. -/
def Instr.bytes? (i : Instr) : Option (List Byte) := i.frame?.map fun f => frameBytes f.addr f.code f.params

end Sys2Proof
end

