-- ==== Sys2Proof/Config.lean ====
section
/-! DEFINITION. What the CS3210 fixes: constants of the part, and the values its manual leaves open. -/

namespace Sys2Proof.Config

/-- FREE VALUE (log entry 4). R18 says that a conversion gives a whole multiple of the channel's step and not which
multiple an input between two of them gives: whether channel `ch` rounds the input `x` up. It has no body. -/
opaque converterRoundsUp : (ch : Nat) → (x : Int) → Bool

/-- FREE VALUE (log entry 33). R187 gives the settings image a CRC-16 and names no polynomial, initial value or byte layout:
the CRC of the image's values. It has no body. -/
opaque imageCrc : (values : List Nat) → BitVec 16

/-- FREE VALUE (log entry 19). R164 begins a reply 6 to 10 ms after its command frame, and one that follows a settings write
at no stated time: what the part waits beyond the least wait for a reply formed at this tick count on link 0 (O-link) or 1
(B-link). It has no body. -/
opaque replyWait : (link : Nat) → (tick : Nat) → Nat

/-- P_own, the part's own draw in cW (R32, R45). -/
abbrev pOwn : Nat := 180

/-- P_hw, the limit of the feed stages in cW (R38). -/
abbrev pHw : Nat := 9600

/-- One account unit in cW s (section 2.4). -/
abbrev auSize : Nat := 3600

/-- The floor horizon of a pass in s (R43). -/
abbrev floorHorizon : Nat := 900

/-- Entries the signalling queue holds at most (R95). -/
abbrev queueLimit : Nat := 48

/-- Records the Result Ring holds at most (R143). -/
abbrev ringLimit : Nat := 64

/-- Upper end of the 1 ms tick count (R1). -/
abbrev tickMax : Nat := 18446744073709551615

/-- Upper end of the outage clock (R2). -/
abbrev clockMax : Nat := 4294967295

/-- The retry wait of a FAULT port in ms (R72). -/
abbrev retryWait : Nat := 30000

/-- The life of an O-LINK, AUTO or RELEASE entry in ms (R98). -/
abbrev entryLife : Nat := 30000

/-- The feed settle time in ms (R109). -/
abbrev settleTime : Nat := 200

/-- The reply window in ms (R87). -/
abbrev replyWindow : Nat := 500

/-- The count at which a line is MUTED (R105). -/
abbrev muteCount : Nat := 160

/-- The level at which the sense bias of TESTING holds the pair in mV, and its current limit in mA (R60). -/
abbrev senseLevel : Nat := 15000
abbrev senseLimit : Nat := 30

/-- The trip's current in FULL in mA, and its pair voltage in mV and time in ms in TRICKLE (R69). -/
abbrev tripCurrent : Nat := 1500
abbrev tripLevel : Nat := 20000
abbrev tripTime : Nat := 100

/-- No-load limit in mA (R74). -/
abbrev noLoadLimit : Nat := 5

end Sys2Proof.Config
end

