-- ==== Sys2Proof/Machine/State.lean ====
section
/-! DEFINITION. The state of the CS3210, block by block, as plain data, with its value after a power-on reset. -/

namespace Sys2Proof.Machine

open Sys2Proof

/-- The part runs, is held by its RESET pin (R16), or has no supply (R15, R188). -/
inductive Phase where
  | off
  | resetHeld
  | running
deriving DecidableEq, Repr

/-- The kinds of reset (R180). -/
inductive ResetKind where
  | powerOn
  | hard
  | restart
deriving DecidableEq, Repr

/-- The device mode (R3). -/
inductive Mode where
  | standby
  | qualifying
  | outage
  | restoring
  | releasing
  | depleted
deriving DecidableEq, Repr

/-- The qualification style (R4). -/
inductive Style where
  | edge
  | level
deriving DecidableEq, Repr

/-- The qualification in progress (R3). -/
inductive Qual where
  | none
  | outage
  | restore
deriving DecidableEq, Repr

/-- What a port's stage has been ordered to do (R58). -/
inductive FeedState where
  | off
  | shed
  | trickle
  | full
  | testing
  | fault
  | lockedOut
deriving DecidableEq, Repr

/-- What the part knows of a terminal (R76). -/
inductive Terminal where
  | unknown
  | absent
  | asleep
  | awake
  | call
deriving DecidableEq, Repr

/-- The battery grade of a terminal (chapter 7). -/
inductive Battery where
  | unknown
  | good
  | weak
  | failed
deriving DecidableEq, Repr

/-- The line state, which follows the line error count (R105). -/
inductive LineState where
  | clear
  | marginal
  | muted
deriving DecidableEq, Repr

/-- The cause of a fault (R71). -/
inductive FaultCause where
  | short
  | overdraw
deriving DecidableEq, Repr

/-- The members of a port's repeat setting: 1, 4, 8 and 16 (R80). -/
inductive Repeat where
  | r1
  | r4
  | r8
  | r16
deriving DecidableEq, Repr

/-- The class a pass gives a port (R37). -/
inductive PortClass where
  | shed
  | trickle
  | full
  | none
deriving DecidableEq, Repr

/-- The stage of a wake (R109). -/
inductive WakeStage where
  | parked
  | settling
  | signalling
deriving DecidableEq, Repr

/-- A wake record (R109); its port is the record's place in the port table. -/
structure WakeRecord where
  stage : WakeStage
  expiry : Nat
deriving DecidableEq, Repr

/-- A settle timer (R109): not in FULL, running until a tick count, or settled. -/
inductive Settle where
  | idle
  | running (until_ : Nat)
  | settled
deriving DecidableEq, Repr

/-- The provisioning of a port, as the settings image holds it (R58, R187). -/
structure Provision where
  enabled : Bool
  grade : Fin 4
  rep : Repeat
  dt : Nat
  df : Nat
deriving DecidableEq, Repr

/-- A port's record (R58) with the records that other blocks keep for the port: the line error count of the LSU
(R85), the wake record, release record and settle timer of the Wake Handler (R109). `trickleSince` is the tick count at
which the port entered TRICKLE, none outside it: the trip's 100 ms run from it at the earliest (R69). -/
structure PortRecord where
  prov : Provision
  feed : FeedState
  held : Bool
  pollMark : Bool
  terminal : Terminal
  battery : Battery
  lastMv : Option Nat
  lastSeq : Option (BitVec 16)
  lineErr : Nat
  faultCause : Option FaultCause
  faultCount : Nat
  retryAt : Option Nat
  trickleSince : Option Nat
  overdrawRun : Nat
  noLoadRun : Nat
  trickleLimit : Nat
  wake : Option WakeRecord
  release : Bool
  settle : Settle
deriving DecidableEq, Repr

/-- The Time Base (R1, R2): the tick count, the ms since the last second tick (the phase of the free-running 1 s ticks,
which the saturation of the tick count does not touch), the tick count of the last 100 ms sample that has been used in LEVEL
style or has passed in EDGE style (R3), and the outage clock. -/
structure TimeBase where
  tick : Nat
  sinceSecond : Nat
  lastLevel : Nat
  clock : Nat
deriving DecidableEq, Repr

/-- The Mains Qualifier (R3): `count` is the elapsed ms in EDGE style and the sample count in LEVEL style. -/
structure Mains where
  mode : Mode
  sample : Bool
  qual : Qual
  count : Nat
  outageNumber : BitVec 16
deriving DecidableEq, Repr

/-- A measurement set (R19), in mV and mA. -/
structure MeasSet where
  vBank : Nat
  iBank : Int
  vFeed : Nat
  iPort : Vector Nat 32
deriving DecidableEq, Repr

/-- The Bank Monitor (R18 to R25); `scanPos` is none between scans. -/
structure Bank where
  scanPos : Option Nat
  accountMark : Bool
  last : MeasSet
  valid : Bool
  scanCount : BitVec 16
  cutoffRun : Nat
deriving DecidableEq, Repr

/-- The Energy Account (R26). -/
structure Account where
  eBank : Nat
  rLeft : Nat
  resBank : Nat
  resBldg : Nat
  bAvg : Nat
  bAvgStarted : Bool
  breach : Bool
deriving DecidableEq, Repr

/-- What a pass reads of one port at its beginning (R41): `candidate` and `wantsFull` stand for the conditions of R46
and R48 as the pass finds them. -/
structure PassPort where
  candidate : Bool
  feed : FeedState
  grade : Fin 4
  dt : Nat
  df : Nat
  terminal : Terminal
  battery : Battery
  wantsFull : Bool
deriving DecidableEq, Repr

/-- All that a pass reads at its beginning (R41). -/
structure PassInput where
  eBank : Nat
  rLeft : Nat
  bAvg : Nat
  clock : Nat
  tHold : Nat
  margin : Nat
  pCeil : Nat
  gCap : Fin 4
  ports : Vector PassPort 32
deriving DecidableEq, Repr

/-- The result of a pass (R37). `causes` has bit n for the trigger kind at place n + 1 of the table of R40. -/
structure PassResult where
  passCount : BitVec 16
  causes : BitVec 8
  time : Nat
  remS : Nat
  pool : Nat
  overhang : Nat
  raw : Int
  pAvail : Nat
  order : List Port
  capped : BitVec 32
  classes : Vector PortClass 32
  held : Vector Bool 32
  baseline : Nat
  total : Nat
  nShed : Nat
  nTrickle : Nat
  nFull : Nat
  nHeld : Nat
  nCapped : Nat
deriving DecidableEq, Repr

/-- A pass in progress (R41, R52): what it read, the kinds it serves, and the ports that have left the candidates
since it began. -/
structure PassWork where
  input : PassInput
  causes : BitVec 8
  departed : BitVec 32
deriving DecidableEq, Repr

/-- The Budget Unit (R37). `work` is some while the pass-in-progress mark is set. `requested` is the MODEL's own: the
trigger kinds requested within the step in progress, empty between steps (log entry 5). -/
structure Budget where
  result : PassResult
  work : Option PassWork
  pendingPass : Bool
  nextCauses : BitVec 8
  requested : BitVec 8
deriving DecidableEq, Repr

/-- The origins of signalling entries (R95). -/
inductive Origin where
  | oLink
  | wake
  | test
  | auto
  | release
deriving DecidableEq, Repr

/-- An entry of the signalling queue (R95). -/
structure Entry where
  port : Port
  kind : RequestKind
  origin : Origin
  attempts : Nat
  enqueued : Nat
  notBefore : Nat
  inLane : Bool
deriving DecidableEq, Repr

/-- The states of a lane's decoder (R91). -/
inductive Decoder where
  | idle
  | waitStart
  | bits (n : Nat)
  | done
deriving DecidableEq, Repr

/-- The stages of a transaction that last between steps (R101). -/
inductive LaneStage where
  | bursting
  | listening
deriving DecidableEq, Repr

/-- A lane's transaction (R101) with its capture and decode state (R90, R91): `since` is the tick count at which the
stage began, `samples` what the capture has taken since the window opened, `closed` whether the window has closed. -/
structure Transaction where
  port : Port
  kind : RequestKind
  origin : Origin
  rEff : Nat
  stage : LaneStage
  since : Nat
  decoder : Decoder
  samples : List Bool
  closed : Bool
deriving DecidableEq, Repr

/-- A port's flag detector (R85, R93): disarmed, or armed at a tick count, with the number of samples taken since and those
of the run under way. -/
inductive FlagDetector where
  | disarmed
  | armed (since : Nat) (taken : Nat) (run : List Bool)
deriving DecidableEq, Repr

/-- The Line Signalling Unit (R85): the queue in arrival order, the four lanes, `none` a FREE lane, and the flag detector of
each port. -/
structure Lsu where
  queue : List Entry
  lanes : Vector (Option Transaction) 4
  flags : Vector FlagDetector 32
deriving DecidableEq, Repr

/-- The Wake Handler's lists (R112, R113): PARKED wakes in order, and SETTLING wakes in the order they left it. -/
structure WakeLists where
  parked : List Port
  settling : List Port
deriving DecidableEq, Repr

/-- The origin of a test (R121). -/
inductive TestOrigin where
  | oLink
  | survey
deriving DecidableEq, Repr

/-- The stages of a test (R121). -/
inductive TestStage where
  | preQuery
  | begin_
  | dwell
  | postQuery
deriving DecidableEq, Repr

/-- A test context (R121). -/
structure TestContext where
  port : Port
  origin : TestOrigin
  stage : TestStage
  start : Nat
  v0 : Option Nat
  v1 : Option Nat
  entered : Option Nat
  dwellEnd : Option Nat
deriving DecidableEq, Repr

/-- The survey state (R121). -/
inductive Survey where
  | none
  | waiting
  | done
deriving DecidableEq, Repr

/-- The Test Engine (R121). -/
structure TestEngine where
  queue : List (Port × TestOrigin)
  contexts : List TestContext
  survey : Survey
deriving DecidableEq, Repr

/-- The outcomes of a test (R142), in the order of their codes. -/
inductive TestOutcome where
  | good
  | weak
  | failed
  | noReport
  | lostOnBattery
  | abortedTerminal
  | abortedMaster
  | abortedMains
  | abortedDepleted
  | abortedRestart
  | abortedLine
deriving DecidableEq, Repr

/-- A test record (R139, R142). -/
structure TestRecord where
  seq : BitVec 16
  outageNumber : BitVec 16
  port : Port
  origin : TestOrigin
  start : Nat
  dwell : Nat
  outcome : TestOutcome
  v0 : Option Nat
  v1 : Option Nat
deriving DecidableEq, Repr

/-- The ring mode (R141). -/
inductive RingMode where
  | wrap
  | hold
deriving DecidableEq, Repr

/-- The Result Ring (R141), oldest record first. -/
structure Ring where
  records : List TestRecord
  nextSeq : BitVec 16
  refusal : Bool
deriving DecidableEq, Repr

/-- The kinds of reply (R88), in the order of their codes 1 to 4. -/
inductive ReplyKind where
  | status
  | battery
  | draw
  | ack
deriving DecidableEq, Repr

/-- A decoded reply (R89). -/
structure Reply where
  kind : ReplyKind
  value : Nat
deriving DecidableEq, Repr

/-- The mode of a message slot (R152). -/
inductive SlotMode where
  | hold
  | replace
deriving DecidableEq, Repr

/-- The content of a full slot (R152). -/
structure Message where
  port : Port
  kind : ReplyKind
  value : Nat
  outageNumber : BitVec 16
  clock : Nat
deriving DecidableEq, Repr

/-- A message slot (R152); it is full when it has content. -/
structure Slot where
  owner : Option Link
  ports : BitVec 32
  kinds : BitVec 4
  mode : SlotMode
  overwritten : Bool
  lost : Nat
  content : Option Message
deriving DecidableEq, Repr

/-- A free slot (R152). -/
def Slot.free : Slot :=
  { owner := none, ports := 0, kinds := 0, mode := .hold, overwritten := false, lost := 0, content := none }

/-- The polarity of an ATTN output (R171). -/
inductive Polarity where
  | activeLow
  | activeHigh
deriving DecidableEq, Repr

/-- The stored settings of one link (R187). -/
structure LinkSettings where
  mask : BitVec 14
  width : Nat
  polarity : Polarity
deriving DecidableEq, Repr

/-- The command in flight on a link (R161), with its reply frame once the reply is formed (R164). -/
structure InFlight where
  code : Byte
  reply : Option (List Byte)
deriving DecidableEq, Repr

/-- A link context (R168) with its framer (R157): whether the line is silent, and the tick count of its last byte; and the
tick count at which the part begins to send the reply in flight, none while there is no reply to send (R157, R164). -/
structure LinkContext where
  portCursor : Port
  cursor : Option (BitVec 16)
  follow : Bool
  missed : Nat
  notices : BitVec 14
  cfg : LinkSettings
  frameErrors : Nat
  overruns : Nat
  inFlight : Option InFlight
  pulseEnd : Option Nat
  silent : Bool
  lastByte : Nat
  sendFrom : Option Nat
deriving DecidableEq, Repr

/-- A point of the OCV table (R27). -/
structure OcvPoint where
  v : Nat
  s : Nat
deriving DecidableEq, Repr

/-- The settings in use, less the port provisioning and the link settings (section 11.4). -/
structure Settings where
  tHold : Nat
  margin : Nat
  pCeil : Nat
  gCap : Fin 4
  dwell : Nat
  vGood : Nat
  vFail : Nat
  sagMax : Nat
  testLimit : Nat
  surveyOn : Bool
  surveyDelay : Nat
  wakeAttempts : Nat
  wakeTimeout : Nat
  cap : Nat
  vCut : Nat
  rB : Nat
  ocv : Vector OcvPoint 9
  style : Style
  tq : Nat
  tr : Nat
  ringMode : RingMode
deriving DecidableEq, Repr

/-- The content of a settings image (R187). -/
structure ImageData where
  settings : Settings
  ports : Vector Provision 32
  oLink : LinkSettings
  bLink : LinkSettings
deriving DecidableEq, Repr

/-- The settings image (R187, R188): never written, cut off in a write so that its check fails, or written whole with the
CRC-16 that its check compares with its content. -/
inductive Image where
  | blank
  | incomplete
  | written (data : ImageData) (crc : BitVec 16)
deriving DecidableEq, Repr

/-- A write of the image in progress (R188): the link that asked, and the copy taken. -/
structure ImageWrite where
  link : Link
  copy : ImageData
deriving DecidableEq, Repr

/-- Where the settings of the last load came from (R189). -/
inductive SettingsSource where
  | image
  | defaults
deriving DecidableEq, Repr

/-- The Settings Store (R187 to R190). -/
structure Store where
  image : Image
  write : Option ImageWrite
  source : SettingsSource
deriving DecidableEq, Repr

/-- Why a step would stop. It has no constructor: nothing in the manual stops the part, so no meaning raises a fault
(a port fault of R71 is a state of the port, not a stop of the machine). Safe. -/
inductive Fault where
deriving DecidableEq, Repr

/-- Why a command would have no meaning. -/
inductive Refusal where
  /-- Raised by `exec` alone, for a command that has no meaning yet; no arm raises it now. Safe. -/
  | notModelled (mnemonic : String)
deriving DecidableEq, Repr

/-- The state of the CS3210 and the queue of the commands that wait for it, first in, first out. -/
structure State where
  phase : Phase
  straps : Fin 32
  lastReset : ResetKind
  time : TimeBase
  mains : Mains
  bank : Bank
  account : Account
  budget : Budget
  ports : Vector PortRecord 32
  lsu : Lsu
  wakes : WakeLists
  tests : TestEngine
  ring : Ring
  slots : Vector Slot 12
  oLink : LinkContext
  bLink : LinkContext
  staging : Option (Vector OcvPoint 5)
  settings : Settings
  store : Store
  pending : List Instr
deriving DecidableEq, Repr

/-- The default OCV table (R27). -/
def defaultOcv : Vector OcvPoint 9 :=
  #v[⟨44000, 0⟩, ⟨46000, 100⟩, ⟨47000, 250⟩, ⟨48000, 400⟩, ⟨49000, 550⟩, ⟨50000, 700⟩, ⟨51000, 820⟩, ⟨52000, 930⟩,
    ⟨53000, 1000⟩]

/-- The default settings (section 11.4). -/
def defaultSettings : Settings :=
  { tHold := 240, margin := 100, pCeil := 9600, gCap := 3, dwell := 120, vGood := 11800, vFail := 11000, sagMax := 900,
    testLimit := 2, surveyOn := true, surveyDelay := 300, wakeAttempts := 3, wakeTimeout := 120, cap := 200000,
    vCut := 42000, rB := 0, ocv := defaultOcv, style := .edge, tq := 2000, tr := 60, ringMode := .wrap }

/-- The default provisioning of a port (section 11.4). -/
def defaultProvision : Provision :=
  { enabled := false, grade := 2, rep := .r4, dt := 60, df := 650 }

/-- The default settings of a link (section 11.4). -/
def defaultLinkSettings : LinkSettings :=
  { mask := BitVec.allOnes 14, width := 0, polarity := .activeLow }

/-- The defaults of every setting (R189). -/
def defaultImage : ImageData :=
  { settings := defaultSettings, ports := Vector.replicate 32 defaultProvision, oLink := defaultLinkSettings,
    bLink := defaultLinkSettings }

/-- The result that stands before any pass (R37). -/
def emptyResult : PassResult :=
  { passCount := 0, causes := 0, time := 0, remS := 0, pool := 0, overhang := 0, raw := 0, pAvail := 0, order := [],
    capped := 0, classes := Vector.replicate 32 .none, held := Vector.replicate 32 false, baseline := 0, total := 0,
    nShed := 0, nTrickle := 0, nFull := 0, nHeld := 0, nCapped := 0 }

/-- The measurement set before the first completed scan (R21). -/
def emptySet : MeasSet :=
  { vBank := 0, iBank := 0, vFeed := 0, iPort := Vector.replicate 32 0 }

/-- A port record after a power-on reset with the default provisioning (R59). -/
def resetPort : PortRecord :=
  { prov := defaultProvision, feed := .off, held := false, pollMark := false, terminal := .unknown, battery := .unknown,
    lastMv := none, lastSeq := none, lineErr := 0, faultCause := none, faultCount := 0, retryAt := none,
    trickleSince := none, overdrawRun := 0, noLoadRun := 0, trickleLimit := 12, wake := none, release := false, settle := .idle }

/-- The LSU after every kind of reset (R85): the queue empty, every lane FREE, every flag detector disarmed. -/
def emptyLsu : Lsu := { queue := [], lanes := Vector.replicate 4 none, flags := Vector.replicate 32 .disarmed }

/-- A link context after a power-on reset with a blank image (R168, R189): SETTINGS_DEFAULTED, kind 13, stands in the
notice set. -/
def resetLink (follow : Bool) : LinkContext :=
  { portCursor := 0, cursor := none, follow := follow, missed := 0, notices := 0x2000, cfg := defaultLinkSettings,
    frameErrors := 0, overruns := 0, inFlight := none, pulseEnd := none, silent := true, lastByte := 0,
    sendFrom := none }

/-- The machine right after a power-on reset whose settings image is blank. MAINS_OK present, a strap value of 1 and the
account mark clear are the model's choice (log entry 3). -/
def State.reset : State :=
  { phase := .running, straps := 1, lastReset := .powerOn,
    time := { tick := 0, sinceSecond := 0, lastLevel := 0, clock := 0 },
    mains := { mode := .standby, sample := true, qual := .none, count := 0, outageNumber := 0 },
    bank := { scanPos := none, accountMark := false, last := emptySet, valid := false, scanCount := 0, cutoffRun := 0 },
    account := { eBank := 0, rLeft := 0, resBank := 0, resBldg := 0, bAvg := 0, bAvgStarted := false, breach := false },
    budget := { result := emptyResult, work := none, pendingPass := false, nextCauses := 0, requested := 0 },
    ports := Vector.replicate 32 resetPort,
    lsu := emptyLsu,
    wakes := { parked := [], settling := [] },
    tests := { queue := [], contexts := [], survey := .none },
    ring := { records := [], nextSeq := 0, refusal := false },
    slots := Vector.replicate 12 Slot.free,
    oLink := resetLink true, bLink := resetLink false,
    staging := none, settings := defaultSettings,
    store := { image := .blank, write := none, source := .defaults },
    pending := [] }

end Sys2Proof.Machine
end

