-- ==== Sys2Proof/Machine/Decoder.lean ====
section
/-! DEFINITION. The line code of the feed pairs: downstream bursts (R86, R87), and the capture and decoding of upstream
replies from the comparator's samples (R88 to R92). -/

namespace Sys2Proof.Machine

open Sys2Proof

/-! ### Downstream -/

/-- The request code of a kind (R86). -/
def requestCode : RequestKind → Nat
  | .wake => 1
  | .poll => 2
  | .batteryQuery => 3
  | .drawQuery => 4
  | .testBegin => 5
  | .release => 6

/-- The 8 symbols of a burst (R86): the preamble 1, 0, 1, 0, the code with its most significant bit first, and the
parity bit that makes the 1s among the last four even. -/
def burstSymbols (k : RequestKind) : List Bool :=
  let c := requestCode k
  let code := [c.testBit 2, c.testBit 1, c.testBit 0]
  [true, false, true, false] ++ code ++ [decide (code.count true % 2 = 1)]

/-- The length of a burst in ms: a dip of 2 ms for a 0 or 5 ms for a 1, each followed by a gap of 3 ms (R86). -/
def burstMs (symbols : List Bool) : Nat := (symbols.map fun b => if b then 8 else 5).sum

/-- How long `r` bursts take in ms, with 20 ms between one and the next (R87). -/
def burstsMs (k : RequestKind) (r : Nat) : Nat := r * burstMs (burstSymbols k) + (r - 1) * 20

/-- The dips of a symbol, one Bool each ms, true while the pair is dipped (R86). -/
def symbolWave (b : Bool) : List Bool := List.replicate (if b then 5 else 2) true ++ List.replicate 3 false

/-- The dips of one burst (R86). -/
def burstWave (k : RequestKind) : List Bool := (burstSymbols k).flatMap symbolWave

/-- The dips of the bursts of a transaction (R87). -/
def burstsWave (k : RequestKind) : Nat → List Bool
  | 0 => []
  | 1 => burstWave k
  | n + 2 => burstWave k ++ List.replicate 20 false ++ burstsWave k (n + 1)

/-- The reply kind that a request expects (R89). -/
def expectedReply : RequestKind → ReplyKind
  | .wake | .poll => .status
  | .batteryQuery => .battery
  | .drawQuery => .draw
  | .testBegin | .release => .ack

/-! ### Upstream: runs -/

/-- A run: the time the comparator stays at one level, in units of 0.25 ms (section 5.4). -/
structure Run where
  level : Bool
  width : Nat
deriving DecidableEq, Repr

/-- The port's signalling comparator (R88): high while the pair current stands at least 10 mA above the slow average. -/
def PairSample.high (x : PairSample) : Bool := x.average + 10 ≤ x.current

/-- The capture forms runs sample by sample (R90): `cur` is the run under way, and `open_` a first sample at another level,
of which the next sample decides whether it begins a run or is a glitch, which joins the run under way. The runs, the one
under way last, and the sample still undecided. A single sample before the first run has no run to join and is not recorded
(log entry 11). -/
def formRuns : (cur : Option Run) → (open_ : Option Bool) → List Bool → List Run × Option Bool
  | cur, open_, [] => (cur.toList, open_)
  | none, none, b :: bs => formRuns none (some b) bs
  | none, some c, b :: bs => if b = c then formRuns (some ⟨b, 2⟩) none bs else formRuns none (some b) bs
  | some r, none, b :: bs =>
    if b = r.level then formRuns (some ⟨r.level, r.width + 1⟩) none bs else formRuns (some r) (some b) bs
  | some r, some c, b :: bs =>
    if b = c then
      let rest := formRuns (some ⟨b, 2⟩) none bs
      (r :: rest.1, rest.2)
    else formRuns (some ⟨r.level, r.width + 2⟩) none bs

/-- The runs of a list of samples, and its last sample while it is undecided. -/
def runsOf (samples : List Bool) : List Run × Option Bool := formRuns none none samples

/-- An entry of the capture (R90): a level, a width of 1 to 255 units and a continues mark. -/
structure CaptureEntry where
  level : Bool
  width : Nat
  continues : Bool
deriving DecidableEq, Repr

/-- The entries that record one run (R90). -/
def recordRun (r : Run) : List CaptureEntry :=
  List.replicate (r.width / 255) ⟨r.level, 255, true⟩ ++
    if r.width % 255 = 0 then [] else [⟨r.level, r.width % 255, false⟩]

/-- The capture of a list of samples (R90). -/
def capture (samples : List Bool) : List CaptureEntry := (runsOf samples).1.flatMap recordRun

/-- The runs that the decoder reads from the capture: the widths of entries whose continues marks join them are added
(R90). -/
def joinEntries : List CaptureEntry → List Run
  | [] => []
  | e :: es =>
    match joinEntries es with
    | [] => [⟨e.level, e.width⟩]
    | r :: rs =>
      if e.continues = true ∧ r.level = e.level then ⟨e.level, e.width + r.width⟩ :: rs
      else ⟨e.level, e.width⟩ :: r :: rs

/-! ### Upstream: the decoder -/

/-- The decoder's state with what it awaits in BITS(n) and the bits taken so far (R91). -/
structure DecodeState where
  state : Decoder
  awaitGap : Bool
  taken : List Bool
deriving DecidableEq, Repr

/-- The decoder when the window opens (R91). -/
def DecodeState.start : DecodeState := { state := .waitStart, awaitGap := false, taken := [] }

/-- What a run does to the decoder (R91). -/
inductive RunResult where
  | goOn (d : DecodeState)
  | reply (bits : List Bool)
  | symbol
  | flag
deriving DecidableEq, Repr

/-- A start pulse (R88). -/
def isStart (w : Nat) : Bool := 32 ≤ w && w ≤ 48
/-- A gap (R88). -/
def isGap (w : Nat) : Bool := 6 ≤ w && w ≤ 12
/-- A bit cell's high pulse for a 0 (R88). -/
def isZero (w : Nat) : Bool := 5 ≤ w && w ≤ 11
/-- A bit cell's high pulse for a 1 (R88). -/
def isOne (w : Nat) : Bool := 12 ≤ w && w ≤ 20
/-- A terminal flag (R93). -/
def isFlag (w : Nat) : Bool := 160 ≤ w && w ≤ 320

/-- A bit is taken in BITS(n) (R91). -/
def takeBit (d : DecodeState) (n : Nat) (b : Bool) : RunResult :=
  if n = 19 then .reply (d.taken ++ [b]) else .goOn { state := .bits (n + 1), awaitGap := true, taken := d.taken ++ [b] }

/-- A run that has ended is judged in the decoder's state (table of R91). -/
def judgeRun (d : DecodeState) (r : Run) : RunResult :=
  match d.state with
  | .idle | .done => .goOn d
  | .waitStart =>
    if r.level = false then .goOn d
    else if isStart r.width then .goOn { state := .bits 0, awaitGap := true, taken := [] }
    else if isFlag r.width then .flag
    else .symbol
  | .bits n =>
    if d.awaitGap then
      if r.level = false ∧ isGap r.width then .goOn { d with awaitGap := false } else .symbol
    else if r.level = false then .symbol
    else if isZero r.width then takeBit d n false
    else if isOne r.width then takeBit d n true
    else if isFlag r.width then .flag
    else .symbol

/-- The run still open has passed the widest width that the decoder's state could accept (R91). -/
def openTooLong (d : DecodeState) (r : Run) : Bool :=
  match d.state with
  | .idle | .done => false
  | .waitStart => r.level && 320 < r.width
  | .bits _ => if r.level then 320 < r.width else 12 < r.width

/-- What the decoder makes of the runs so far (R92): a reply, a failure, a flag, or still open, with whether a high run is
open or may have begun. -/
inductive Verdict where
  | open_ (d : DecodeState) (high : Bool)
  | reply (bits : List Bool)
  | symbol
  | flag
deriving DecidableEq, Repr

/-- The decoder on a list of runs of which the last is still open (R91); `rising` says that an undecided high sample follows
it. -/
def decodeRuns (rising : Bool) : DecodeState → List Run → Verdict
  | d, [] => .open_ d rising
  | d, [r] => if openTooLong d r then .symbol else .open_ d (r.level || rising)
  | d, r :: r' :: rs =>
    match judgeRun d r with
    | .goOn d' => decodeRuns rising d' (r' :: rs)
    | .reply bits => .reply bits
    | .symbol => .symbol
    | .flag => .flag

/-- The decoder on the samples taken since the window opened. -/
def decodeSamples (samples : List Bool) : Verdict :=
  decodeRuns ((runsOf samples).2 = some true) .start (joinEntries (capture samples))

/-- The decoder waits for a start pulse with the level low (R92). -/
def Verdict.waitingLow : Verdict → Bool
  | .open_ d high => d.state = .waitStart && !high
  | .reply _ | .symbol | .flag => false

/-- The samples of a whole reply window of 500 ms. -/
def windowSamples : Nat := 4 * Config.replyWindow

/-- The samples show that no reply came (R92): the decoder waits with the level low at the window's close, or at the sample
after it, which decides a single high sample at the close (log entry 35). -/
def noReply (samples : List Bool) : Bool :=
  (windowSamples ≤ samples.length && (decodeSamples (samples.take windowSamples)).waitingLow) ||
    (windowSamples < samples.length && (decodeSamples (samples.take (windowSamples + 1))).waitingLow)

/-- What the decoder makes of the samples, `none` when they show that no reply came (R92). -/
def listen (samples : List Bool) : Option Verdict :=
  if noReply samples then none else some (decodeSamples samples)

/-- The samples taken since a flag detector was armed hold a terminal flag (R93): a high run of 160 to 320 units that
began after the arming and has ended. -/
def flagInRuns : List Run → Bool
  | r :: r' :: rs => (r.level && isFlag r.width) || flagInRuns (r' :: rs)
  | _ => false

/-- A flag among the samples that an armed detector forms runs from; with `fresh`, they are the first since its arming, and a
run high from the first of them began before it. -/
def flagSeen (fresh : Bool) (samples : List Bool) : Bool :=
  match joinEntries (capture samples) with
  | r :: rs => flagInRuns (if fresh && r.level && samples.head? = some true then rs else r :: rs)
  | [] => false

/-- The samples of the run under way at the end of a list of samples, with the one still undecided. -/
def runUnderWay (samples : List Bool) : List Bool :=
  (match (runsOf samples).1.getLast? with
    | some r => List.replicate r.width r.level
    | none => []) ++ (runsOf samples).2.toList

/-! ### Upstream: the reply -/

/-- A list of bits, the most significant first, as a number. -/
def bitsToNat (bits : List Bool) : Nat := bits.foldl (fun n b => 2 * n + b.toNat) 0

/-- The check field of a reply (R88). -/
def replyCheck (kind value : Nat) : Nat := 15 - (kind + value / 256 % 16 + value / 16 % 16 + value % 16) % 16

/-- The kind with a kind code (R88). -/
def replyKindOf : Nat → Option ReplyKind
  | 1 => some .status
  | 2 => some .battery
  | 3 => some .draw
  | 4 => some .ack
  | _ => none

/-- The code of a reply kind (R88). -/
def ReplyKind.code : ReplyKind → Nat
  | .status => 1
  | .battery => 2
  | .draw => 3
  | .ack => 4

/-- The reply that twenty bits spell, if it is valid (R89); the value of an ACK is taken as 0. -/
def judgeReply (bits : List Bool) : Option Reply :=
  let kind := bitsToNat (bits.take 4)
  let value := bitsToNat ((bits.drop 4).take 12)
  match replyKindOf kind with
  | some k =>
    if bitsToNat (bits.drop 16) = replyCheck kind value then some ⟨k, if k = .ack then 0 else value⟩ else none
  | none => none

/-- A number as `n` bits, the most significant first. -/
def natToBits : (n : Nat) → (v : Nat) → List Bool
  | 0, _ => []
  | n + 1, v => v.testBit n :: natToBits n v

/-- The twenty bits with which a terminal sends a kind and a value (R88). -/
def replyBits (k : ReplyKind) (value : Nat) : List Bool :=
  natToBits 4 k.code ++ natToBits 12 value ++ natToBits 4 (replyCheck k.code value)

/-- The samples of a reply with nominal widths: a start pulse of 10 ms, gaps of 2 ms, cells of 2 ms for a 0 and 4 ms for
a 1, and the low level after it (R88). -/
def replySamples (bits : List Bool) : List Bool :=
  List.replicate 40 true ++
    bits.flatMap (fun b => List.replicate 8 false ++ List.replicate (if b then 16 else 8) true) ++ [false, false]

end Sys2Proof.Machine
end

