-- ==== Sys2Proof/Machine/Ops.lean ====
section
/-! DEFINITION. The named operations over State that every block's rules are written with: reading and writing a block,
a port record and a link context, the passing of time, requests for passes, queue entries and lanes, and the one
operation that changes a port's feed state. -/

namespace Sys2Proof.Machine

open Sys2Proof

/-! ### Reading and writing one block -/

def State.modTime (s : State) (f : TimeBase → TimeBase) : State := { s with time := f s.time }
def State.modMains (s : State) (f : Mains → Mains) : State := { s with mains := f s.mains }
def State.modBank (s : State) (f : Bank → Bank) : State := { s with bank := f s.bank }
def State.modAccount (s : State) (f : Account → Account) : State := { s with account := f s.account }
def State.modBudget (s : State) (f : Budget → Budget) : State := { s with budget := f s.budget }
def State.modLsu (s : State) (f : Lsu → Lsu) : State := { s with lsu := f s.lsu }
def State.modWakes (s : State) (f : WakeLists → WakeLists) : State := { s with wakes := f s.wakes }
def State.modTests (s : State) (f : TestEngine → TestEngine) : State := { s with tests := f s.tests }
def State.modRing (s : State) (f : Ring → Ring) : State := { s with ring := f s.ring }
def State.modSettings (s : State) (f : Settings → Settings) : State := { s with settings := f s.settings }
def State.modStore (s : State) (f : Store → Store) : State := { s with store := f s.store }

/-- The record of one port. -/
def State.port (s : State) (p : Port) : PortRecord := s.ports[p]

/-- Writes the record of one port. -/
def State.modPort (s : State) (p : Port) (f : PortRecord → PortRecord) : State :=
  { s with ports := s.ports.set p (f s.ports[p]) }

/-- Writes every port's record. -/
def State.mapPorts (s : State) (f : Port → PortRecord → PortRecord) : State :=
  { s with ports := Vector.ofFn fun p => f p s.ports[p] }

/-- One message slot. -/
def State.slot (s : State) (i : SlotId) : Slot := s.slots[i]

/-- Writes one message slot. -/
def State.modSlot (s : State) (i : SlotId) (f : Slot → Slot) : State :=
  { s with slots := s.slots.set i (f s.slots[i]) }

/-- The context of one link. -/
def State.link (s : State) (l : Link) : LinkContext :=
  match l with
  | .oLink => s.oLink
  | .bLink => s.bLink

/-- Writes the context of one link. -/
def State.modLink (s : State) (l : Link) (f : LinkContext → LinkContext) : State :=
  match l with
  | .oLink => { s with oLink := f s.oLink }
  | .bLink => { s with bLink := f s.bLink }

/-- One lane's transaction, or none while it is FREE. -/
def State.lane (s : State) (i : LaneId) : Option Transaction := s.lsu.lanes[i]

/-- Writes one lane. -/
def State.setLane (s : State) (i : LaneId) (t : Option Transaction) : State :=
  s.modLsu fun u => { u with lanes := u.lanes.set i t }

/-- The present time: the 1 ms tick count (R1). -/
def State.now (s : State) : Nat := s.time.tick

/-- The device mode. -/
def State.mode (s : State) : Mode := s.mains.mode

/-- The part runs: it has supply and is not held in reset. -/
def State.isRunning (s : State) : Bool := s.phase = .running

/-! ### Modes, feed states and line states -/

/-- OUTAGE, RESTORING and RELEASING (section 1.2). -/
def Mode.isOutageMode : Mode → Bool
  | .outage | .restoring | .releasing => true
  | .standby | .qualifying | .depleted => false

/-- The modes in which a request leads to a pass (R40). -/
def Mode.runsPasses : Mode → Bool
  | .outage | .restoring => true
  | .standby | .qualifying | .releasing | .depleted => false

/-- The feed states in which line signalling can take place (R60). -/
def FeedState.signallable : FeedState → Bool
  | .trickle | .full | .testing => true
  | .off | .shed | .fault | .lockedOut => false

/-- The feed states of a candidate, when the port is enabled (R46). -/
def FeedState.candidate : FeedState → Bool
  | .shed | .trickle | .full => true
  | .off | .testing | .fault | .lockedOut => false

/-- TRICKLE or FULL. -/
def FeedState.fed : FeedState → Bool
  | .trickle | .full => true
  | .off | .shed | .testing | .fault | .lockedOut => false

/-- The port takes part in a pass that begins now (R46). -/
def PortRecord.candidate (r : PortRecord) : Bool := r.prov.enabled && r.feed.candidate

/-- The line state that a line error count gives (R105). -/
def lineStateOf (count : Nat) : LineState :=
  if count < 64 then .clear else if count < Config.muteCount then .marginal else .muted

/-- The port's line state (R105). -/
def PortRecord.lineState (r : PortRecord) : LineState := lineStateOf r.lineErr

/-- The repeat setting as a count of bursts (R80). -/
def Repeat.count : Repeat → Nat
  | .r1 => 1
  | .r4 => 4
  | .r8 => 8
  | .r16 => 16

/-- The bit of a port in a set of ports (R173). -/
def portBit (p : Port) : BitVec 32 := BitVec.twoPow 32 p.val

/-! ### Time -/

/-- The count at which the qualification in progress completes (R4, R5, R6). -/
def qualTarget (q : Qual) (style : Style) (tq tr : Nat) : Nat :=
  match style, q with
  | .edge, .outage => tq
  | .edge, _ => tr * 1000
  | .level, .outage => tq / 100
  | .level, _ => tr * 10

/-- The target of the qualification in progress under the settings in use. -/
def State.target (s : State) : Nat := qualTarget s.mains.qual s.settings.style s.settings.tq s.settings.tr

/-- `n` ms pass: the tick count advances, saturating, and the phase of the second ticks with it (R1), and so does the
elapsed count of an EDGE timer, up to the time at which it expires (R5, R8). In EDGE style the 100 ms samples of the time
pass unused; in LEVEL style each of them stays due until it is used (R3; log entry 2). -/
def State.elapse (s : State) (n : Nat) : State :=
  (s.modTime fun t =>
    let tick := min (t.tick + n) Config.tickMax
    { t with tick := tick, sinceSecond := t.sinceSecond + n,
             lastLevel := if s.settings.style = .edge then tick / 100 * 100 else t.lastLevel }).modMains fun m =>
    if s.settings.style = .edge ∧ m.qual ≠ .none ∧ m.count < s.target then
      { m with count := min (m.count + n) s.target }
    else m

/-- Time passes until the tick count has reached `t` (log entry 2). -/
def State.advanceTo (s : State) (t : Nat) : State := s.elapse (t - s.now)

/-! ### Notices and the pulses of the ATTN outputs -/

/-- The notice kinds (R169). -/
inductive Notice where
  | outageBegin
  | outageEnd
  | depleted
  | shedChange
  | portFault
  | lineMuted
  | wakeFailed
  | wakeExpired
  | testDone
  | slotFilled
  | reserveBreach
  | ringOverrun
  | signalDropped
  | settingsDefaulted
deriving DecidableEq, Repr

/-- The number of a notice kind (R169). -/
def Notice.number : Notice → Nat
  | .outageBegin => 0
  | .outageEnd => 1
  | .depleted => 2
  | .shedChange => 3
  | .portFault => 4
  | .lineMuted => 5
  | .wakeFailed => 6
  | .wakeExpired => 7
  | .testDone => 8
  | .slotFilled => 9
  | .reserveBreach => 10
  | .ringOverrun => 11
  | .signalDropped => 12
  | .settingsDefaulted => 13

/-- The bit of a notice kind. -/
def Notice.bit (k : Notice) : BitVec 14 := BitVec.twoPow 14 k.number

/-- A kind enters a link's notice set at tick count `now` (R169). In pulse style a kind that is in the mask and was not
in the set starts a pulse if none is running (R172). -/
def LinkContext.raise (c : LinkContext) (k : Notice) (now : Nat) : LinkContext :=
  { c with
    notices := c.notices ||| k.bit
    pulseEnd :=
      if c.cfg.width ≠ 0 ∧ c.notices.getLsbD k.number = false ∧ c.cfg.mask.getLsbD k.number = true ∧ c.pulseEnd = none then
        some (now + c.cfg.width)
      else c.pulseEnd }

/-- A notice for one link. -/
def State.notify (s : State) (l : Link) (k : Notice) : State := s.modLink l fun c => c.raise k s.now

/-- A notice for both links. -/
def State.notifyBoth (s : State) (k : Notice) : State := (s.notify .oLink k).notify .bLink k

/-! ### Requests for passes -/

/-- The trigger kinds of a pass (R40). -/
inductive PassKind where
  | scan
  | outageStart
  | resume
  | restart
  | feed
  | demand
  | setting
  | wake
deriving DecidableEq, Repr

/-- The bit of a trigger kind in a cause set: bit n for the kind at place n + 1 of the table of R40 (R173). -/
def PassKind.bit : PassKind → BitVec 8
  | .scan => 0x01
  | .outageStart => 0x02
  | .resume => 0x04
  | .restart => 0x08
  | .feed => 0x10
  | .demand => 0x20
  | .setting => 0x40
  | .wake => 0x80

/-- A request for a pass (R40): dropped outside OUTAGE and RESTORING, and otherwise served at the end of the step
together with the step's other requests (R41; log entry 5). -/
def State.requestPass (s : State) (k : PassKind) : State :=
  if s.mode.runsPasses then s.modBudget fun b => { b with requested := b.requested ||| k.bit } else s

/-- A write of the terminal state; one that changes the value requests a pass of kind DEMAND (R76). -/
def State.setTerminal (s : State) (p : Port) (t : Terminal) : State :=
  if (s.port p).terminal = t then s else (s.modPort p fun r => { r with terminal := t }).requestPass .demand

/-- A write of the battery grade; one that changes the value requests a pass of kind DEMAND (R40, R130, R131). -/
def State.setBattery (s : State) (p : Port) (g : Battery) : State :=
  if (s.port p).battery = g then s else (s.modPort p fun r => { r with battery := g }).requestPass .demand

/-! ### Queue entries and lanes -/

/-- The origin class of an origin (R95). -/
def Origin.cls : Origin → OriginClass
  | .test => .test
  | .oLink | .wake | .auto | .release => .other

/-- The entry has this port, kind and origin class. -/
def Entry.isFor (e : Entry) (p : Port) (k : RequestKind) (c : OriginClass) : Bool :=
  e.port = p && e.kind = k && e.origin.cls = c

/-- The entry with this port, kind and origin class, if one stands in the queue. -/
def State.entry? (s : State) (p : Port) (k : RequestKind) (c : OriginClass) : Option Entry :=
  s.lsu.queue.find? fun e => e.isFor p k c

/-- Removes the entries that satisfy a test (R99). -/
def State.dropEntries (s : State) (f : Entry → Bool) : State :=
  s.modLsu fun u => { u with queue := u.queue.filter fun e => !f e }

/-- Removes the entry with this port, kind and origin class. -/
def State.removeEntry (s : State) (p : Port) (k : RequestKind) (c : OriginClass) : State :=
  s.dropEntries fun e => e.isFor p k c

/-- Changes the entry with this port, kind and origin class in its place. -/
def State.modEntry (s : State) (p : Port) (k : RequestKind) (c : OriginClass) (f : Entry → Entry) : State :=
  s.modLsu fun u => { u with queue := u.queue.map fun e => if e.isFor p k c then f e else e }

/-- A port's flag detector (R93). -/
def State.flag (s : State) (p : Port) : FlagDetector := s.lsu.flags[p]

/-- Writes a port's flag detector. -/
def State.setFlag (s : State) (p : Port) (d : FlagDetector) : State :=
  s.modLsu fun u => { u with flags := u.flags.set p d }

/-- A lane serves the port. -/
def serves (p : Port) : Option Transaction → Bool
  | some t => t.port = p
  | none => false

/-- Some lane is in transaction for the port (R100). -/
def State.serving (s : State) (p : Port) : Bool := allLanes.any fun i => serves p (s.lane i)

/-- An entry of this origin has lived its 30 s (R98). WAKE and TEST entries do not expire in the queue. -/
def Entry.overdue (e : Entry) (now : Nat) : Bool :=
  match e.origin with
  | .oLink | .auto | .release => e.enqueued + Config.entryLife ≤ now
  | .wake | .test => false

/-! ### Wake records -/

/-- Removes the port's wake: its record, its place in the lists, and its WAKE entry (R99, R114, R116). -/
def State.dropWake (s : State) (p : Port) : State :=
  (((s.modPort p fun r => { r with wake := none }).modWakes fun w =>
    { parked := w.parked.filter (· ≠ p), settling := w.settling.filter (· ≠ p) })).removeEntry p .wake .other

/-- The port's wake has reached its expiry time (R114). -/
def State.wakeOverdue (s : State) (p : Port) : Bool :=
  match (s.port p).wake with
  | some w => w.expiry ≤ s.now
  | none => false

/-- A wake expires (R114): its record and its entry go, WAKE_EXPIRED is raised, and a pass is requested. -/
def State.expireWake (s : State) (p : Port) : State :=
  ((s.dropWake p).notifyBoth .wakeExpired).requestPass .demand

/-! ### The feed state of a port -/

/-- The entry of an abandoned transaction, if it still stands, waits in its place without its in-lane mark (R103),
unless its expiry (R98) or its wake's (R114) has come. -/
def State.returnEntry (s : State) (t : Transaction) : State :=
  match s.entry? t.port t.kind t.origin.cls with
  | none => s
  | some e =>
    if e.inLane = false then s
    else if t.origin = .oLink ∧ e.overdue s.now then
      (s.removeEntry t.port t.kind .other).notify .oLink .signalDropped
    else if t.origin = .auto ∧ e.overdue s.now then s.removeEntry t.port t.kind .other
    else if t.origin = .wake ∧ s.wakeOverdue t.port then s.expireWake t.port
    else s.modEntry t.port t.kind t.origin.cls fun e => { e with inLane := false }

/-- Abandons the lane's transaction if it serves the port (R103). -/
def State.abandonLane (s : State) (p : Port) (i : LaneId) : State :=
  match s.lane i with
  | none => s
  | some t => if t.port = p then (s.setLane i none).returnEntry t else s

/-- Abandons the transaction that a lane holds for the port (R103). -/
def State.abandonPort (s : State) (p : Port) : State := allLanes.foldl (fun s i => s.abandonLane p i) s

/-- A SETTLING wake whose port leaves FULL is parked again at the end of the wake list with the expiry it has (R113), and a
wake parked for a port requests a pass of kind DEMAND (R40; log entry 29). -/
def State.repark (s : State) (p : Port) : State :=
  match (s.port p).wake with
  | some ⟨.settling, x⟩ =>
    ((s.modPort p fun r => { r with wake := some ⟨.parked, x⟩ }).modWakes fun w =>
      { parked := w.parked ++ [p], settling := w.settling.filter (· ≠ p) }).requestPass .demand
  | _ => s

/-- What a change of feed state does to the port's own record: the held mark goes when the port leaves the candidates
(R53), the poll mark on entry into OFF or LOCKED_OUT, the overdraw count on leaving FULL and the no-load count on entry
into SHED (R63), the retry wait starts in FAULT and stops outside it (R71, R72), the trip's time starts on entry into TRICKLE
(R69), and the settle timer runs from each entry into FULL (R109). -/
def PortRecord.withFeed (r : PortRecord) (f : FeedState) (now : Nat) : PortRecord :=
  { r with
    feed := f
    held := r.held && f.candidate
    pollMark := r.pollMark && f ≠ .off && f ≠ .lockedOut
    overdrawRun := if r.feed = .full then 0 else r.overdrawRun
    noLoadRun := if f = .shed then 0 else r.noLoadRun
    retryAt := if f = .fault then some (now + Config.retryWait) else none
    trickleSince := if f = .trickle then some now else none
    settle := if f = .full then .running (now + Config.settleTime) else .idle }

/-- A pass in progress learns that the port has left the candidates (R52). -/
def State.markDeparted (s : State) (p : Port) : State :=
  s.modBudget fun b => { b with work := b.work.map fun w => { w with departed := w.departed ||| portBit p } }

/-- The port's feed state becomes `f` (R60, R63). A state equal to the present one leaves everything as it is. -/
def State.setFeed (s : State) (p : Port) (f : FeedState) : State :=
  let r := s.port p
  if r.feed = f then s
  else
    let s₁ := s.modPort p fun r => r.withFeed f s.now
    let s₂ := if r.candidate && !f.candidate then s₁.markDeparted p else s₁
    let s₃ := if r.feed = .full then s₂.repark p else s₂
    if f.signallable then s₃ else s₃.abandonPort p

/-- Sets the overdraw and no-load run counts to 0. -/
def State.clearRuns (s : State) (p : Port) : State := s.modPort p fun r => { r with overdrawRun := 0, noLoadRun := 0 }

/-- No port is in TRICKLE or FULL (R67). -/
def State.noneFed (s : State) : Bool := allPorts.all fun p => !(s.port p).feed.fed

end Sys2Proof.Machine
end

