-- ==== Sys2Proof/Machine/Flags.lean ====
section
/-! DEFINITION. The flags and outputs of the CS3210 that follow from its state: the ATTN outputs, the stage drive of a
port and the dips of its bursts, the flag detector and trip arming, and the held mark of a qualification. -/

namespace Sys2Proof.Machine

open Sys2Proof

/-- The link's masked notice set (R170). -/
def LinkContext.masked (c : LinkContext) : BitVec 14 := c.notices &&& c.cfg.mask

/-- The link's ATTN output is asserted: in level style while the masked set is not empty (R171), in pulse style while a
pulse runs (R172). -/
def LinkContext.attnAsserted (c : LinkContext) : Bool :=
  if c.cfg.width = 0 then c.masked ≠ 0 else c.pulseEnd.isSome

/-- The level of the link's ATTN output: driven high in a reset, and otherwise asserted or deasserted at the link's
polarity (R171). -/
def State.attnHigh (s : State) (l : Link) : Bool :=
  if s.isRunning then
    match (s.link l).cfg.polarity with
    | .activeHigh => (s.link l).attnAsserted
    | .activeLow => !(s.link l).attnAsserted
  else true

/-- The ms left of a running ATTN pulse (R168). -/
def State.pulseLeft (s : State) (l : Link) : Nat := ((s.link l).pulseEnd.getD s.now) - s.now

/-- The ms left of a FAULT port's retry wait, or none while it is stopped (R58, R72). -/
def State.retryLeft (s : State) (p : Port) : Option Nat := (s.port p).retryAt.map fun t => t - s.now

/-- What a stage supplies to its pair (R60). -/
inductive Stage where
  | off
  | limited (milliamps : Nat)
  | on
  | senseBias (millivolts milliamps : Nat)
deriving DecidableEq, Repr

/-- The drive of a port's stage (R60). Every stage is off in a reset and without supply (R15, R16). -/
def State.stage (s : State) (p : Port) : Stage :=
  if s.isRunning then
    match (s.port p).feed with
    | .trickle => .limited (s.port p).trickleLimit
    | .full => .on
    | .testing => .senseBias Config.senseLevel Config.senseLimit
    | .off | .shed | .fault | .lockedOut => .off
  else .off

/-- The lane's transaction is dipping the port's pair at this tick: it is in its bursts, and within a dip (R86, R101). -/
def Transaction.dips (t : Transaction) (p : Port) (now : Nat) : Bool :=
  t.port = p && t.stage = .bursting && (burstsWave t.kind t.rEff).getD (now - t.since) false

/-- The pair stands at the dip level (R86, R101). -/
def State.dipped (s : State) (p : Port) : Bool := s.lsu.lanes.toList.any fun t => t.any fun t => t.dips p s.now

/-- The normal level of the pair in mV (R86): the feed in TRICKLE and FULL, whose voltage at the pair is `feed`, and the
sense bias in TESTING. -/
def Stage.normalLevel (st : Stage) (feed : Nat) : Nat :=
  match st with
  | .off => 0
  | .limited _ | .on => feed
  | .senseBias mv _ => mv

/-- The level to which the part drives a pair in mV (R60, R86): half the normal level in a dip. -/
def State.pairLevel (s : State) (p : Port) (feed : Nat) : Nat :=
  if s.dipped p then (s.stage p).normalLevel feed / 2 else (s.stage p).normalLevel feed

/-- The stage stands at this limit with the pair below 20,000 mV (R69). -/
def PairReading.limited (limit : Nat) (x : PairReading) : Bool := limit ≤ x.current && x.voltage < Config.tripLevel

/-- The last 100 ms of the readings show the stage at this limit without a break (R69). -/
def heldAtLimit (limit : Nat) (readings : List PairReading) : Bool :=
  Config.tripTime ≤ readings.length && (readings.drop (readings.length - Config.tripTime)).all (PairReading.limited limit)

/-- The port has stood in TRICKLE for 100 ms (R69). -/
def State.trickleStood (s : State) (p : Port) : Bool :=
  match (s.port p).trickleSince with
  | some t => t + Config.tripTime ≤ s.now
  | none => false

/-- The port's sense trip fires (R69), on the pair current now and on the readings up to now, one each ms: in FULL above
1,500 mA; in TRICKLE, once that has stood for 100 ms, after 100 ms at the trickle limit with the pair below 20,000 mV;
disarmed in every other feed state (log entry 14). -/
def State.tripFires (s : State) (p : Port) (milliamps : Nat) (readings : List PairReading) : Bool :=
  match (s.port p).feed with
  | .full => Config.tripCurrent < milliamps
  | .trickle => s.trickleStood p && heldAtLimit (s.port p).trickleLimit readings
  | .off | .shed | .testing | .fault | .lockedOut => false

/-- The port's flag detector is armed (R93). -/
def State.flagArmed (s : State) (p : Port) : Bool :=
  s.mode.runsPasses && (s.port p).feed.signallable && (s.port p).lineState ≠ .muted && !s.serving p

/-- The held mark of an outage qualification: it is due, and no scan has completed since the reset (R8). -/
def State.qualHeld (s : State) : Bool :=
  s.mode = .qualifying && s.mains.qual = .outage && s.target ≤ s.mains.count && !s.bank.valid

/-- A port's demand is FULL (R48); otherwise it is TRICKLE. -/
def State.wantsFull (s : State) (p : Port) : Bool :=
  (s.port p).terminal = .awake || (s.port p).terminal = .call || (s.port p).wake.isSome || (s.port p).release ||
    s.lsu.queue.any fun e => e.isFor p .release .other

end Sys2Proof.Machine
end

