-- ==== Sys2Proof/Machine/Budget.lean ====
section
/-! DEFINITION. The Budget Unit's arithmetic (chapter 3): what a pass reads, the allowance, the admission order, the two
walks and the result. How a result is applied is in Machine/Passes.lean. -/

namespace Sys2Proof.Machine

open Sys2Proof

/-! ### What a pass reads (R41) -/

/-- One port as a pass that begins now reads it. -/
def State.passPort (s : State) (p : Port) : PassPort :=
  { candidate := (s.port p).candidate, feed := (s.port p).feed, grade := (s.port p).prov.grade, dt := (s.port p).prov.dt,
    df := (s.port p).prov.df, terminal := (s.port p).terminal, battery := (s.port p).battery, wantsFull := s.wantsFull p }

/-- All that a pass that begins now reads. -/
def State.passInput (s : State) : PassInput :=
  { eBank := s.account.eBank, rLeft := s.account.rLeft, bAvg := s.account.bAvg, clock := s.time.clock,
    tHold := s.settings.tHold, margin := s.settings.margin, pCeil := s.settings.pCeil, gCap := s.settings.gCap,
    ports := Vector.ofFn fun p => s.passPort p }

/-! ### The allowance (R43 to R45) -/

/-- The horizon in s (R43). -/
def PassInput.remS (i : PassInput) : Nat := max (i.tHold * 60 - i.clock) Config.floorHorizon

/-- The pool in AU (R44). -/
def PassInput.pool (i : PassInput) : Nat := i.eBank - i.rLeft

/-- The overhang in cW s (R44). -/
def PassInput.overhang (i : PassInput) : Nat := i.bAvg * i.remS - i.rLeft * Config.auSize

/-- The allowance before the caps (R45). -/
def PassInput.raw (i : PassInput) : Int :=
  let n : Int := (i.pool * Config.auSize : Nat) - (i.overhang : Nat)
  if 0 ≤ n then n / (i.remS : Nat) - Config.pOwn else -Config.pOwn

/-- P_avail (R45). -/
def PassInput.pAvail (i : PassInput) : Nat := (min i.raw (min i.pCeil Config.pHw : Nat)).toNat

/-! ### Candidates and order (R46 to R49) -/

/-- The candidate is capped: above the grade cap, and not in CALL (R47). -/
def PassInput.isCapped (i : PassInput) (p : Port) : Bool :=
  i.ports[p].candidate && i.gCap < i.ports[p].grade && i.ports[p].terminal ≠ .call

/-- The candidate stands in the admission order (R49). -/
def PassInput.admitted (i : PassInput) (p : Port) : Bool := i.ports[p].candidate && !i.isCapped p

/-- The place of a battery grade as the third key (R49). -/
def Battery.rank : Battery → Nat
  | .failed => 0
  | .weak => 1
  | .unknown => 2
  | .good => 3

/-- The four keys of the admission order as one number (R49): CALL, priority grade, battery grade, port number. -/
def PassInput.key (i : PassInput) (p : Port) : Nat :=
  (((if i.ports[p].terminal = .call then 0 else 1) * 4 + i.ports[p].grade.val) * 4 + i.ports[p].battery.rank) * 32 + p.val

/-- The admission order (R49). -/
def PassInput.order (i : PassInput) : List Port :=
  (allPorts.filter fun p => i.admitted p).insertionSort fun a b => i.key a ≤ i.key b

/-! ### The two walks (R50, R51) -/

/-- The baseline walk (R50): the kept ports and the sum of their trickle draws. -/
def baselineWalk (dt : Port → Nat) (avail : Nat) : Nat → List Port → List Port × Nat
  | sum, [] => ([], sum)
  | sum, p :: ps =>
    if sum + dt p ≤ avail then
      (p :: (baselineWalk dt avail (sum + dt p) ps).1, (baselineWalk dt avail (sum + dt p) ps).2)
    else ([], sum)

/-- The test of the upgrade walk for one port (R51): already in FULL it needs `sum ≤ P_avail`, otherwise
`sum ≤ P_avail - M`. -/
def upgradeFits (alreadyFull : Bool) (sum avail margin : Nat) : Bool :=
  if alreadyFull then sum ≤ avail else sum + margin ≤ avail

/-- The upgrade walk (R51): the ports admitted to FULL and the budgeted total. -/
def upgradeWalk (add : Port → Nat) (isFull : Port → Bool) (avail margin : Nat) : Nat → List Port → List Port × Nat
  | sum, [] => ([], sum)
  | sum, p :: ps =>
    if upgradeFits (isFull p) (sum + add p) avail margin then
      (p :: (upgradeWalk add isFull avail margin (sum + add p) ps).1,
        (upgradeWalk add isFull avail margin (sum + add p) ps).2)
    else ([], sum)

/-- The port's demand is FULL as the pass read it (R48). -/
def PassInput.wantsFull (i : PassInput) (p : Port) : Bool := i.ports[p].wantsFull

/-- The kept ports and the baseline sum (R50). -/
def PassInput.baseline (i : PassInput) : List Port × Nat := baselineWalk (fun p => i.ports[p].dt) i.pAvail 0 i.order

/-- The ports admitted to FULL and the budgeted total (R51). -/
def PassInput.upgrade (i : PassInput) : List Port × Nat :=
  upgradeWalk (fun p => i.ports[p].df - i.ports[p].dt) (fun p => i.ports[p].feed = .full) i.pAvail i.margin i.baseline.2
    (i.baseline.1.filter fun p => i.wantsFull p)

/-- The class that the walks give a port (R46, R47, R50, R51). -/
def PassInput.classOf (i : PassInput) (p : Port) : PortClass :=
  if i.ports[p].candidate = false then .none
  else if p ∈ i.upgrade.1 then .full
  else if p ∈ i.baseline.1 then .trickle
  else .shed

/-- The held mark that the walks give a port (R51, R53): a kept port with FULL demand that was not admitted. -/
def PassInput.heldOf (i : PassInput) (p : Port) : Bool :=
  i.classOf p = .trickle && i.wantsFull p

/-- A set of ports as its 32 bits (R173). -/
def portSet (f : Port → Bool) : BitVec 32 := allPorts.foldl (fun b p => if f p then b ||| portBit p else b) 0

/-- The ports that satisfy a test, counted. -/
def countPorts (f : Port → Bool) : Nat := (allPorts.filter f).length

/-! ### The result (R37) -/

/-- The class of a port in the recorded result: none for a port for which the result was ignored (R52). -/
def PassWork.classOf (w : PassWork) (p : Port) : PortClass :=
  if w.departed.getLsbD p.val then .none else w.input.classOf p

/-- The held mark of a port in the recorded result. -/
def PassWork.heldOf (w : PassWork) (p : Port) : Bool := !w.departed.getLsbD p.val && w.input.heldOf p

/-- The result that a pass records (R37, R42, R52). The class counts count the recorded classes (log entry 10). -/
def PassWork.result (w : PassWork) (count : BitVec 16) : PassResult :=
  { passCount := count, causes := w.causes, time := w.input.clock, remS := w.input.remS, pool := w.input.pool,
    overhang := w.input.overhang, raw := w.input.raw, pAvail := w.input.pAvail, order := w.input.order,
    capped := portSet w.input.isCapped, classes := Vector.ofFn w.classOf, held := Vector.ofFn w.heldOf,
    baseline := w.input.baseline.2, total := w.input.upgrade.2,
    nShed := countPorts fun p => w.classOf p = .shed, nTrickle := countPorts fun p => w.classOf p = .trickle,
    nFull := countPorts fun p => w.classOf p = .full, nHeld := countPorts w.heldOf,
    nCapped := countPorts w.input.isCapped }

/-- The port's place in the admission order, 1 the first, 0 when it has none (R56). -/
def PassResult.place (r : PassResult) (p : Port) : Nat :=
  if p ∈ r.order then r.order.findIdx (fun q => q = p) + 1 else 0

/-- The feed state of a class. -/
def PortClass.feed : PortClass → FeedState
  | .shed | .none => .shed
  | .trickle => .trickle
  | .full => .full

end Sys2Proof.Machine
end

