-- ==== Sys2Proof/Machine/Lsu.lean ====
section
/-! DEFINITION. The Line Signalling Unit's operations: taking a request into the queue (R96), the lane arbiter (R100),
the arming of the flag detectors (R93), and the line error count (R105). What the end of a transaction does to the other blocks is in Machine/Outcomes.lean. -/

namespace Sys2Proof.Machine

open Sys2Proof

/-! ### Requests -/

/-- What became of a request (R96): not taken in this mode, merged with a standing entry, added, or dropped at a full
queue. -/
inductive Fate where
  | notTaken
  | merged
  | added
  | full
deriving DecidableEq, Repr

/-- The LSU takes a request of this kind in this mode (R96). -/
def takesRequest (m : Mode) (k : RequestKind) : Bool := m.runsPasses || (m = .releasing && k = .release)

/-- The attempts of a new entry (R97). -/
def State.newAttempts (s : State) (k : RequestKind) : Nat := if k = .wake then s.settings.wakeAttempts else 2

/-- The spacing of a kind after a failed attempt in ms (R97). -/
def spacing (k : RequestKind) : Nat := if k = .wake then 5000 else 1000

/-- The entry that a request makes (R96). -/
def State.newEntry (s : State) (p : Port) (k : RequestKind) (o : Origin) : Entry :=
  { port := p, kind := k, origin := o, attempts := s.newAttempts k, enqueued := s.now, notBefore := s.now, inLane := false }

/-- What becomes of a request (R96). -/
def State.requestFate (s : State) (p : Port) (k : RequestKind) (o : Origin) : Fate :=
  if takesRequest s.mode k = false then .notTaken
  else if (s.entry? p k o.cls).isSome then .merged
  else if s.lsu.queue.length < Config.queueLimit then .added
  else .full

/-- A request to the LSU as it acts on the queue and the notice sets (R96). An O-link request at a full queue is refused
by its command; any other raises SIGNAL_DROPPED, and its origin is told by the caller. -/
def State.request (s : State) (p : Port) (k : RequestKind) (o : Origin) : State :=
  match s.requestFate p k o with
  | .notTaken | .merged => s
  | .added => s.modLsu fun u => { u with queue := u.queue ++ [s.newEntry p k o] }
  | .full => if o = .oLink then s else s.notifyBoth .signalDropped

/-! ### The arbiter -/

/-- The priority class of an entry, 1 the highest (R100). -/
def Entry.priority (e : Entry) : Nat :=
  match e.kind, e.origin.cls with
  | .batteryQuery, .test => 1
  | .wake, _ => 2
  | .testBegin, _ => 3
  | .poll, _ | .drawQuery, _ | .batteryQuery, .other => 4
  | .release, _ => 5

/-- The entry may be granted a lane (R100). -/
def State.eligible (s : State) (e : Entry) : Bool :=
  !e.inLane && e.notBefore ≤ s.now && (s.port e.port).feed.signallable && (s.port e.port).lineState ≠ .muted &&
    !s.serving e.port

/-- The entry of the highest class, and the oldest within it (R100). -/
def bestEntry : List Entry → Option Entry
  | [] => none
  | e :: es =>
    match bestEntry es with
    | none => some e
    | some b => if b.priority < e.priority then some b else some e

/-- The repeat count that a grant fixes (R87). -/
def PortRecord.repeatCount (r : PortRecord) : Nat :=
  if r.lineState = .clear then r.prov.rep.count else max r.prov.rep.count 8

/-- The transaction that a grant starts (R101). -/
def State.newTransaction (s : State) (e : Entry) : Transaction :=
  { port := e.port, kind := e.kind, origin := e.origin, rEff := (s.port e.port).repeatCount, stage := .bursting,
    since := s.now, decoder := .idle, samples := [], closed := false }

/-- Grants the lane, if it is FREE, to the best eligible entry (R100, R101). -/
def State.grantLane (s : State) (i : LaneId) : State :=
  match s.lane i with
  | some _ => s
  | none =>
    match bestEntry (s.lsu.queue.filter fun e => s.eligible e) with
    | none => s
    | some e => (s.setLane i (some (s.newTransaction e))).modEntry e.port e.kind e.origin.cls fun e => { e with inLane := true }

/-- A port's flag detector at tick count `now` (R93): armed from the first step that leaves the condition `on`, and disarmed
by the first that does not. -/
def FlagDetector.follow (d : FlagDetector) (on : Bool) (now : Nat) : FlagDetector :=
  match d, on with
  | .disarmed, true => .armed now 0 []
  | .armed since taken run, true => .armed since taken run
  | _, false => .disarmed

/-- Every flag detector is armed or disarmed as its port stands (R93). -/
def State.armDetectors (s : State) : State :=
  s.modLsu fun u => { u with flags := Vector.ofFn fun p => u.flags[p].follow (s.flagArmed p) s.now }

/-- The FREE lanes are granted in lane number order, each to the best entry still eligible (R100). -/
def State.grantLanes (s : State) : State := allLanes.foldl State.grantLane s

/-- The arbiter acts (R100), and the flag detectors follow what the step has done (R93). -/
def State.arbitrate (s : State) : State := s.grantLanes.armDetectors

/-! ### The line error count -/

/-- A failed answer adds 8, up to 160 (R105). -/
def State.lineFailure (s : State) (p : Port) : State :=
  s.modPort p fun r => { r with lineErr := min (r.lineErr + 8) Config.muteCount }

/-- A success subtracts 1, not below 0 (R105). -/
def State.lineSuccess (s : State) (p : Port) : State := s.modPort p fun r => { r with lineErr := r.lineErr - 1 }

/-- A line error count is set to 0 (R105). -/
def State.clearLine (s : State) (p : Port) : State := s.modPort p fun r => { r with lineErr := 0 }

end Sys2Proof.Machine
end

