-- ==== Sys2Proof/Machine/MessageStore.lean ====
section
/-! DEFINITION. The Message Store's delivery of replies (R156). -/

namespace Sys2Proof.Machine

open Sys2Proof

/-- The bit of a reply kind in a kind set (R173). -/
def ReplyKind.bit : ReplyKind → BitVec 4
  | .status => 1
  | .battery => 2
  | .draw => 4
  | .ack => 8

/-- The slot matches a reply of this port and kind (R152). -/
def Slot.matches (t : Slot) (p : Port) (k : ReplyKind) : Bool :=
  t.owner.isSome && t.ports.getLsbD p.val && (t.kinds &&& k.bit) ≠ 0

/-- The content that a delivery makes now (R152, R156). -/
def State.message (s : State) (p : Port) (r : Reply) : Message :=
  { port := p, kind := r.kind, value := r.value, outageNumber := s.mains.outageNumber, clock := s.time.clock }

/-- SLOT_FILLED goes to the slot's owner alone (R156). -/
def State.notifyOwner (s : State) (o : Option Link) : State :=
  match o with
  | some l => s.notify l .slotFilled
  | none => s

/-- A valid reply is offered to the Message Store (R156): the lowest matching empty slot takes it, or the lowest
matching slot in REPLACE, or the lowest matching slot counts it as lost. -/
def State.deliver (s : State) (p : Port) (r : Reply) : State :=
  let fits := fun i => (s.slot i).matches p r.kind
  match allSlots.find? fun i => fits i && (s.slot i).content.isNone with
  | some i => (s.modSlot i fun t => { t with content := some (s.message p r) }).notifyOwner (s.slot i).owner
  | none =>
    match allSlots.find? fun i => fits i && (s.slot i).mode = .replace with
    | some i =>
      (s.modSlot i fun t => { t with content := some (s.message p r), overwritten := true }).notifyOwner (s.slot i).owner
    | none =>
      match allSlots.find? fits with
      | some i => s.modSlot i fun t => { t with lost := min (t.lost + 1) 15 }
      | none => s

end Sys2Proof.Machine
end

