-- ==== Sys2Proof/Machine/Wake.lean ====
section
/-! DEFINITION. The Wake Handler's operations (chapter 6): making, refreshing, unparking and ending wakes. -/

namespace Sys2Proof.Machine

open Sys2Proof

/-- An expiry time set now (R110, R111). -/
def State.wakeDeadline (s : State) : Nat := s.now + s.settings.wakeTimeout * 1000

/-- A wake's final failure (R115). -/
def State.failWake (s : State) (p : Port) : State :=
  (((s.dropWake p).setTerminal p .unknown).notifyBoth .wakeFailed).requestPass .demand

/-- A wake's success (R115): its record and any entry go, and a pass is requested. -/
def State.endWake (s : State) (p : Port) : State := (s.dropWake p).requestPass .demand

/-- The Wake Handler requests a WAKE entry; one dropped at a full queue is a final failure (R113, R115). -/
def State.requestWake (s : State) (p : Port) : State :=
  if s.requestFate p .wake .wake = .full then (s.request p .wake .wake).failWake p else s.request p .wake .wake

/-- The stage that a new wake enters (R111). -/
def PortRecord.newWakeStage (r : PortRecord) : WakeStage :=
  if r.feed ≠ .full then .parked else if r.settle = .settled then .signalling else .settling

/-- A wake record enters a stage with this expiry, at the end of the stage's list if it has one (R112, R113; a wake that was
never parked: log entry 38). -/
def State.putWake (s : State) (p : Port) (stage : WakeStage) (expiry : Nat) : State :=
  (s.modPort p fun r => { r with wake := some ⟨stage, expiry⟩ }).modWakes fun w =>
    match stage with
    | .parked => { w with parked := w.parked ++ [p] }
    | .settling => { w with settling := w.settling ++ [p] }
    | .signalling => w

/-- A wake is made for a port that has none (R111, last case). -/
def State.makeWake (s : State) (p : Port) : State :=
  let s₁ := s.putWake p (s.port p).newWakeStage s.wakeDeadline
  if (s.port p).newWakeStage = .signalling then s₁.requestWake p else s₁

/-- What the Wake Handler did with a wake (R175). -/
inductive WakeDid where
  | nothing
  | refreshed
  | parked
  | settling
  | signalling
deriving DecidableEq, Repr

/-- What the Wake Handler does with a wake for the port (the cases of R111). -/
def State.wakeCase (s : State) (p : Port) : WakeDid :=
  if (s.port p).prov.enabled = false then .nothing
  else if (s.port p).terminal = .awake ∨ (s.port p).terminal = .call then .nothing
  else if (s.port p).wake.isSome then .refreshed
  else
    match (s.port p).newWakeStage with
    | .parked => .parked
    | .settling => .settling
    | .signalling => .signalling

/-- The Wake Handler takes a wake for the port, with a pass of kind `k` for a wake made or refreshed (R111, R117): a wake
that is parked requests one of kind DEMAND too (R40; log entry 29). -/
def State.takeWake (s : State) (p : Port) (k : PassKind) : State :=
  match s.wakeCase p with
  | .nothing => s
  | .refreshed =>
    (s.modPort p fun r => { r with wake := r.wake.map fun w => { w with expiry := s.wakeDeadline } }).requestPass k
  | .parked => ((s.makeWake p).requestPass k).requestPass .demand
  | .settling | .signalling => (s.makeWake p).requestPass k

/-- An automatic wake, taken in OUTAGE and RESTORING (R117). -/
def State.autoWake (s : State) (p : Port) : State :=
  if s.mode.runsPasses then s.takeWake p .demand else s

/-- The PARKED wakes whose ports are in the set leave the wake list and settle (R113). -/
def State.unpark (s : State) (placed : Port → Bool) : State :=
  let leaving := s.wakes.parked.filter placed
  if leaving = [] then s
  else
    ((s.mapPorts fun p r => if p ∈ leaving then { r with wake := some ⟨.settling, s.wakeDeadline⟩ } else r).modWakes fun w =>
      { parked := w.parked.filter fun p => !placed p, settling := w.settling ++ leaving }).requestPass .demand

/-- The port's settle timer has run out in FULL (R113): the port is settled, and its SETTLING wake asks for its burst. -/
def State.settlePort (s : State) (p : Port) : State :=
  let s₁ := s.modPort p fun r => { r with settle := .settled }
  match (s.port p).wake with
  | some ⟨.settling, x⟩ =>
    ((s₁.modPort p fun r => { r with wake := some ⟨.signalling, x⟩ }).modWakes fun w =>
      { w with settling := w.settling.filter (· ≠ p) }).requestWake p
  | _ => s₁

end Sys2Proof.Machine
end

