-- ==== Sys2Proof/Machine/Operands.lean ====
section
/-! DEFINITION. The operand forms of the links (chapters 9 and 10): parameters read from bytes, the adjustment of values
(R163), the statuses, and the fields of replies (R173). -/

namespace Sys2Proof.Machine

open Sys2Proof

/-! ### Parameters -/

/-- A two-byte parameter, little-endian (R173). -/
def le16 (a b : Byte) : Nat := a.toNat + 256 * b.toNat

/-- A four-byte parameter, little-endian (R173). -/
def le32 (a b c d : Byte) : Nat := le16 a b + 65536 * le16 c d

/-- A set of ports (R173). -/
def lePorts (a b c d : Byte) : BitVec 32 := BitVec.ofNat 32 (le32 a b c d)

/-- A port number, none above 31 (R162). -/
def portOf (b : Byte) : Option Port := if h : b.toNat < 32 then some ⟨b.toNat, h⟩ else none

/-- A slot number, none above 11 (R162). -/
def slotOf (b : Byte) : Option SlotId := if h : b.toNat < 12 then some ⟨b.toNat, h⟩ else none

/-! ### Adjustment (R163) -/

/-- A value outside a range goes to the nearer end. -/
def clamp (lo hi v : Nat) : Nat := max lo (min hi v)

/-- A grade above 3 is lowered to 3 (R39, R80). -/
def gradeOfByte (b : Byte) : Fin 4 := ⟨min b.toNat 3, by omega⟩

/-- A repeat count goes to the next member of 1, 4, 8, 16, and one above 16 to 16 (R80). -/
def repeatOf (n : Nat) : Repeat := if n ≤ 1 then .r1 else if n ≤ 4 then .r4 else if n ≤ 8 then .r8 else .r16

/-- The two draws of PORT-DRAW as taken (R79): clamped, and d_t not above d_f. -/
def drawsOf (dt df : Nat) : Nat × Nat := (min (clamp 10 2500 dt) (clamp 10 2500 df), clamp 10 2500 df)

/-- T_q as taken (R4): clamped, and raised to a multiple of 100 ms. -/
def tqOf (v : Nat) : Nat := (clamp 500 10000 v + 99) / 100 * 100

/-! ### Statuses and answers (R162, R164) -/

/-- The statuses of a reply (R162). -/
inductive Status where
  | ok
  | okClamped
  | badParam
  | badLength
  | unknownCmd
  | refusedLink
  | refusedMode
  | owned
  | full
  | busyStore
  | empty
deriving DecidableEq, Repr

/-- The code of a status (R162). -/
def Status.code : Status → Byte
  | .ok => 0
  | .okClamped => 1
  | .badParam => 2
  | .badLength => 3
  | .unknownCmd => 4
  | .refusedLink => 5
  | .refusedMode => 6
  | .owned => 7
  | .full => 8
  | .busyStore => 9
  | .empty => 10

/-- OK, or OK_CLAMPED when a value was adjusted (R163). -/
def Status.taken (asSent : Bool) : Status := if asSent then .ok else .okClamped

/-- The parameters of a reply: the status and the fields after it (R164). -/
structure Answer where
  status : Status
  fields : List Byte
deriving DecidableEq, Repr

/-- The parameter bytes of a reply. -/
def Answer.bytes (a : Answer) : List Byte := a.status.code :: a.fields

/-! ### Fields of replies (R173) -/

/-- A number in `n` bytes, little-endian. -/
def bytesLE : (n : Nat) → (v : Nat) → List Byte
  | 0, _ => []
  | n + 1, v => BitVec.ofNat 8 v :: bytesLE n (v / 256)

def u8 (v : Nat) : List Byte := bytesLE 1 v
def u16 (v : Nat) : List Byte := bytesLE 2 v
def u32 (v : Nat) : List Byte := bytesLE 4 v
def u64 (v : Nat) : List Byte := bytesLE 8 v

/-- A signed number in two bytes, two's complement. -/
def s16 (v : Int) : List Byte := u16 (BitVec.ofInt 16 v).toNat

/-- A signed number in four bytes, two's complement. -/
def s32 (v : Int) : List Byte := u32 (BitVec.ofInt 32 v).toNat

/-- A mark or a flag, 1 when set. -/
def mark (b : Bool) : List Byte := u8 b.toNat

/-- An optional one-byte field behind its absent mark. -/
def opt8 : Option Nat → List Byte
  | none => [0, 0]
  | some v => 1 :: u8 v

/-- An optional two-byte field behind its absent mark. -/
def opt16 : Option Nat → List Byte
  | none => [0, 0, 0]
  | some v => 1 :: u16 v

/-! ### Codes of enumerated fields: each list numbered from 0 in the order of its definition (R173) -/

/-- The code of a mode (R173). -/
def Mode.code : Mode → Nat
  | .standby => 0
  | .qualifying => 1
  | .outage => 2
  | .restoring => 3
  | .releasing => 4
  | .depleted => 5

/-- The code of a qualification style (R179). -/
def Style.code : Style → Nat
  | .edge => 0
  | .level => 1

/-- The code of a qualification in progress (R180). -/
def Qual.code : Qual → Nat
  | .none => 0
  | .outage => 1
  | .restore => 2

/-- The code of a feed state (R173). -/
def FeedState.code : FeedState → Nat
  | .off => 0
  | .shed => 1
  | .trickle => 2
  | .full => 3
  | .testing => 4
  | .fault => 5
  | .lockedOut => 6

/-- The code of a terminal state (R173). -/
def Terminal.code : Terminal → Nat
  | .unknown => 0
  | .absent => 1
  | .asleep => 2
  | .awake => 3
  | .call => 4

/-- The code of a battery grade (R173). -/
def Battery.code : Battery → Nat
  | .unknown => 0
  | .good => 1
  | .weak => 2
  | .failed => 3

/-- The code of a line state (R173). -/
def LineState.code : LineState → Nat
  | .clear => 0
  | .marginal => 1
  | .muted => 2

/-- The code of a fault cause (R58). -/
def FaultCause.code : FaultCause → Nat
  | .short => 0
  | .overdraw => 1

/-- The code of a class in a result (R182). -/
def PortClass.code : PortClass → Nat
  | .shed => 0
  | .trickle => 1
  | .full => 2
  | .none => 3

/-- The code of a last reset kind (R180). -/
def ResetKind.code : ResetKind → Nat
  | .powerOn => 0
  | .hard => 1
  | .restart => 2

/-- The code of a settings source (R180). -/
def SettingsSource.code : SettingsSource → Nat
  | .image => 0
  | .defaults => 1

/-- The code of a survey state (R121). -/
def Survey.code : Survey → Nat
  | .none => 0
  | .waiting => 1
  | .done => 2

/-- The code of a ring mode (R141). -/
def RingMode.code : RingMode → Nat
  | .wrap => 0
  | .hold => 1

/-- The code of a slot mode (R184). -/
def SlotMode.code : SlotMode → Nat
  | .hold => 0
  | .replace => 1

/-- The code of a ATTN polarity (R185). -/
def Polarity.code : Polarity → Nat
  | .activeLow => 0
  | .activeHigh => 1

/-- The code of a origin of a test (R142). -/
def TestOrigin.code : TestOrigin → Nat
  | .oLink => 0
  | .survey => 1

/-- The code of a outcome of a test (R142). -/
def TestOutcome.code : TestOutcome → Nat
  | .good => 0
  | .weak => 1
  | .failed => 2
  | .noReport => 3
  | .lostOnBattery => 4
  | .abortedTerminal => 5
  | .abortedMaster => 6
  | .abortedMains => 7
  | .abortedDepleted => 8
  | .abortedRestart => 9
  | .abortedLine => 10

/-- The code of the owner of a slot: NONE, O-link, B-link (R152). -/
def ownerCode : Option Link → Nat
  | none => 0
  | some .oLink => 1
  | some .bLink => 2

/-- The code of what the Wake Handler did (R175). -/
def WakeDid.code : WakeDid → Nat
  | .nothing => 0
  | .refreshed => 1
  | .parked => 2
  | .settling => 3
  | .signalling => 4

/-- The code of a reply kind in an enumerated field (R152, R173). -/
def ReplyKind.fieldCode : ReplyKind → Nat
  | .status => 0
  | .battery => 1
  | .draw => 2
  | .ack => 3

/-! ### Composite fields -/

/-- The sag of a record, present when both voltages are (R139). -/
def TestRecord.sag (r : TestRecord) : Option Int :=
  match r.v0, r.v1 with
  | some a, some b => some ((a : Int) - (b : Int))
  | _, _ => none

/-- The presence byte of a record (R142). -/
def TestRecord.presence (r : TestRecord) : Nat := r.v0.isSome.toNat + 2 * r.v1.isSome.toNat + 4 * r.sag.isSome.toNat

/-- A record in its 20 bytes (R142). -/
def TestRecord.bytes (r : TestRecord) : List Byte :=
  u16 r.seq.toNat ++ u16 r.outageNumber.toNat ++ u8 r.port.val ++ u8 r.origin.code ++ u32 r.start ++
    u16 (min r.dwell 65535) ++ u8 r.outcome.code ++ u8 r.presence ++ u16 (r.v0.getD 0) ++ u16 (r.v1.getD 0) ++
    s16 (r.sag.getD 0)

/-- A point of the OCV table: v then s (R173). -/
def OcvPoint.bytes (p : OcvPoint) : List Byte := u16 p.v ++ u16 p.s

end Sys2Proof.Machine
end

