-- ==== Sys2Proof/Machine/Links.lean ====
section
/-! DEFINITION. How the Link Interfaces take a frame (sections 9.1 to 9.5): the framer's silence, the address rules, one
command in flight, the checks of R162, and the reply of R164. -/

namespace Sys2Proof.Machine

open Sys2Proof

/-! ### The framer (R157, R158) -/

/-- A byte of the line has just arrived. -/
def State.heard (s : State) (l : Link) : State := s.modLink l fun c => { c with lastByte := s.now }

/-- A frame has just been taken off the line: what follows without silence is ignored (R157). -/
def State.framed (s : State) (l : Link) : State := s.modLink l fun c => { c with silent := false, lastByte := s.now }

/-- A frame error is counted (R158 to R160). -/
def State.frameError (s : State) (l : Link) : State :=
  s.modLink l fun c => { c with frameErrors := min (c.frameErrors + 1) 255 }

/-! ### Sending a reply (R157, R164) -/

/-- How long `n` bytes take on a link in ms, rounded up: 10 bits a byte at 115,200 bit/s without pauses (section 9.1; log
entry 19). -/
def sendTime (n : Nat) : Nat := (n * 10000 + 115199) / 115200

/-- The tick count by which the reply in flight has been sent. -/
def LinkContext.sentAt (c : LinkContext) : Option Nat :=
  match c.inFlight, c.sendFrom with
  | some ⟨_, some frame⟩, some t => some (t + sendTime frame.length)
  | _, _ => none

/-- The part is sending a reply on the link, and the framer does not receive (R157). -/
def State.sending (s : State) (l : Link) : Bool :=
  (s.link l).sentAt.isSome && (s.link l).sendFrom.any fun t => t ≤ s.now

/-- The number of a link, as `Config.replyWait` takes it. -/
def linkNumber : Link → Nat
  | .oLink => 0
  | .bLink => 1

/-- The tick count at which the part begins the reply of a command taken now: 6 to 10 ms after its frame (R164; log entry
19). -/
def State.replyStart (s : State) (l : Link) : Nat := s.now + 6 + Config.replyWait (linkNumber l) s.now % 5

/-! ### Addresses (R159, R160) -/

/-- The unit address that the straps give, none for 0 and 31 (section 9.2). -/
def State.unitAddress (s : State) : Option Byte :=
  if s.straps = 0 ∨ s.straps = 31 then none else some (BitVec.ofNat 8 s.straps.val)

/-- The address of the part's replies (R159, R160). -/
def State.replyAddress (s : State) : Byte := s.unitAddress.getD 31

/-- What the address rules do with a good frame. -/
inductive Handling where
  | accepted
  | broadcast
  | counted
  | ignored
deriving DecidableEq, Repr

/-- The code of BUILDING-LIMIT (R177). -/
abbrev buildingLimitCode : Byte := 0x23

/-- The handling of a good frame (R159 on the O-link, the table of R160 on the B-link, also for a part without a unit address:
log entry 39). -/
def State.handling (s : State) (f : Frame) : Handling :=
  if isCommandCode f.code = false then .ignored
  else
    match f.link with
    | .oLink => if f.addr = 31 ∨ some f.addr = s.unitAddress then .accepted else .counted
    | .bLink =>
      if some f.addr = s.unitAddress then .accepted
      else if f.addr = 0 then
        if f.code = buildingLimitCode ∧ f.params.length = 1 then .broadcast else .counted
      else .ignored

/-! ### The checks (R162) -/

/-- The links that a command belongs to (R165). -/
inductive Authority where
  | oOnly
  | bOnly
  | either
deriving DecidableEq, Repr

/-- The modes in which a command is available (R166). -/
inductive Availability where
  | always
  | outageOnly
  | outageRestoring
deriving DecidableEq, Repr

/-- What the checks know of a command. -/
structure CommandSpec where
  code : Byte
  authority : Authority
  availability : Availability
  length : Nat
deriving DecidableEq, Repr

/-- The command belongs to the link (R165). -/
def Authority.allows : Authority → Link → Bool
  | .either, _ | .oOnly, .oLink | .bOnly, .bLink => true
  | .oOnly, .bLink | .bOnly, .oLink => false

/-- The command is available in the mode (R166). -/
def Availability.allows : Availability → Mode → Bool
  | .always, _ => true
  | .outageOnly, m => m = .outage
  | .outageRestoring, m => m.runsPasses

/-- The first of the checks 2 to 4 that fails (R162). -/
def CommandSpec.refusal (c : CommandSpec) (l : Link) (m : Mode) (len : Nat) : Option Status :=
  if c.authority.allows l = false then some .refusedLink
  else if c.availability.allows m = false then some .refusedMode
  else if len ≠ c.length then some .badLength
  else none

/-! ### The reply (R164) -/

/-- What a command's owner makes of it: the state after its effect, and its answer; none while the reply awaits the end
of a settings write. -/
abbrev Taken := State × Option Answer

/-- A refusal, which changes nothing. -/
def State.refuse (s : State) (st : Status) : Taken := (s, some ⟨st, []⟩)

/-- A command taken, with its status and fields. -/
def State.answer (s : State) (st : Status) (fields : List Byte) : Taken := (s, some ⟨st, fields⟩)

/-- The reply frame of an answer (R164). -/
def State.replyFrame (s : State) (code : Byte) (a : Answer) : List Byte :=
  frameBytes s.replyAddress (code ||| 0x80) a.bytes

/-- The command is in flight on its link until the last byte of its reply is sent (R161). -/
def State.fly (s : State) (l : Link) (code : Byte) (a : Option Answer) : State :=
  s.modLink l fun c =>
    { c with inFlight := some ⟨code, a.map (s.replyFrame code)⟩, sendFrom := a.map fun _ => s.replyStart l }

/-! ### A frame (R161, R162) -/

/-- An accepted command is checked and taken, and its reply formed (R162, R164). -/
def State.takeChecked (s : State) (f : Frame) (c : CommandSpec) (serve : State → Taken) : State :=
  match c.refusal f.link s.mode f.params.length with
  | some st => s.fly f.link f.code (some ⟨st, []⟩)
  | none => (serve s).1.fly f.link f.code (serve s).2

/-- An accepted frame while a command of its link is in flight is an overrun (R161); otherwise `act` takes it. -/
def State.unlessInFlight (s : State) (l : Link) (act : State → State) : State :=
  if (s.link l).inFlight.isSome then s.modLink l fun c => { c with overruns := min (c.overruns + 1) 255 } else act s

/-- A good frame that has arrived: the framer receives nothing while the part sends, and hands a frame on after silence alone
(R157), a command frame above 24 parameter bytes is bad (R158), and the address rules handle every other. A broadcast
BUILDING-LIMIT is taken by `broadcast`. -/
def State.receive (s : State) (f : Frame) (accept broadcast : State → State) : State :=
  if s.isRunning = false ∨ s.sending f.link = true then s
  else if (s.link f.link).silent = false then s.heard f.link
  else if isCommandCode f.code = true ∧ 24 < f.params.length then (s.framed f.link).frameError f.link
  else
    match s.handling f with
    | .accepted => (s.framed f.link).unlessInFlight f.link accept
    | .broadcast => (s.framed f.link).unlessInFlight f.link broadcast
    | .counted => (s.framed f.link).frameError f.link
    | .ignored => s.framed f.link

/-- A command of the table, from its frame to its reply. -/
def State.command (s : State) (l : Link) (addr : Byte) (ps : List Byte) (c : CommandSpec) (serve : State → Taken) :
    State :=
  s.receive ⟨l, addr, c.code, ps⟩ (fun t => t.takeChecked ⟨l, addr, c.code, ps⟩ c serve) (fun t => t)

end Sys2Proof.Machine
end

