-- ==== Sys2Proof/Machine/Bank.lean ====
section
/-! DEFINITION. The Bank Monitor and the Energy Account (chapter 2): conversion, powers, the OCV estimate, the debit,
and the clamping of the account. -/

namespace Sys2Proof.Machine

open Sys2Proof

/-! ### Conversion (R18) -/

/-- The code that a channel's converter gives for an input (R18): a whole number of steps, within the range of codes.
An input between two steps may read as either (log entry 4). -/
def convertCode (ch : Nat) (step : Int) (lo hi : Int) (x : Int) : Int :=
  max lo (min hi (x / step + if x % step ≠ 0 ∧ Config.converterRoundsUp ch x = true then 1 else 0))

/-- A bank or feed-bus voltage in mV (channels 1 and 3). -/
def convertVoltage (ch : Nat) (x : Int) : Nat := (convertCode ch 16 0 4095 x * 16).toNat

/-- The bank current in mA (channel 2). -/
def convertBankCurrent (x : Int) : Int := convertCode 2 25 (-2048) 2047 x * 25

/-- A port current in mA (channels 4 to 35). -/
def convertPortCurrent (p : Port) (x : Int) : Nat := (convertCode (p.val + 4) 1 0 4095 x).toNat

/-- The measurement set of a completed scan (R18, R19). -/
def convertAll (m : Readings) : MeasSet :=
  { vBank := convertVoltage 1 m.vBank
    iBank := convertBankCurrent m.iBank
    vFeed := convertVoltage 3 m.vFeed
    iPort := Vector.ofFn fun p => convertPortCurrent p m.iPort[p] }

/-! ### Powers (R22) -/

/-- The power of a port in cW (R22). -/
def MeasSet.portPower (m : MeasSet) (p : Port) : Nat := (m.vFeed * m.iPort[p] + 5000) / 10000

/-- The bank power in cW (R22). -/
def MeasSet.bankPower (m : MeasSet) : Nat := (m.vBank * m.iBank.toNat + 5000) / 10000

/-- The sum of the port powers (R32). -/
def MeasSet.sumPower (m : MeasSet) : Nat := (allPorts.map m.portPower).sum

/-! ### The OCV table (R27, R29) -/

/-- A table is valid when its voltages rise, its states of charge do not fall, and none exceeds 1000 (R27). -/
def ocvValid (t : Vector OcvPoint 9) : Bool :=
  (List.finRange 8).all (fun i => t[i.val].v < t[i.val + 1].v && t[i.val].s ≤ t[i.val + 1].s) &&
    (List.finRange 9).all (fun i => t[i].s ≤ 1000)

/-- The state of charge between two points of the table (R29). -/
def interpolate (a b : OcvPoint) (v : Nat) : Nat := a.s + (v - a.v) * (b.s - a.s) / (b.v - a.v)

/-- The state of charge in a list of rising points whose first is at or below `v` (R29). -/
def socFrom (v : Nat) : List OcvPoint → Nat
  | [] => 0
  | [a] => a.s
  | a :: b :: ps => if v < b.v then interpolate a b v else socFrom v (b :: ps)

/-- The state of charge in ‰ for a bank voltage (R29). -/
def soc (t : Vector OcvPoint 9) (v : Nat) : Nat := if v < t[0].v then t[0].s else socFrom v t.toList

/-! ### The account (R26 to R35) -/

/-- The estimate at outage start (R30). -/
def estimate (st : Settings) (vBank : Nat) : Account :=
  let e := st.cap * soc st.ocv vBank / 1000
  { eBank := e, rLeft := min st.rB e, resBank := 0, resBldg := 0, bAvg := 0, bAvgStarted := false, breach := false }

/-- The bank is debited (R31): whole account units are taken off while the residue and the bank allow. -/
def Account.debitBank (a : Account) (pBank : Nat) : Account :=
  let r := a.resBank + pBank
  let k := min (r / Config.auSize) a.eBank
  let e := a.eBank - k
  { a with eBank := e, resBank := if e = 0 then 0 else r - k * Config.auSize }

/-- The building's draw of a scan (R32). -/
def buildingDraw (m : MeasSet) : Nat := m.bankPower - m.sumPower - Config.pOwn

/-- The running average of the building's draw (R32), its division rounding toward zero. -/
def Account.average (a : Account) (bNow : Nat) : Account :=
  { a with
    bAvg := if a.bAvgStarted then ((a.bAvg : Int) + ((bNow : Int) - (a.bAvg : Int)).tdiv 8).toNat else bNow
    bAvgStarted := true }

/-- The reserve is debited (R33). -/
def Account.debitReserve (a : Account) (bNow : Nat) : Account :=
  let r := a.resBldg + bNow
  let k := min (r / Config.auSize) a.rLeft
  let left := a.rLeft - k
  { a with resBldg := if left = 0 then 0 else r - k * Config.auSize, rLeft := min left a.eBank }

/-- RESERVE_BREACH is due after the debit of the reserve (R33). -/
def Account.breached (a : Account) (bNow : Nat) : Bool := a.rLeft = 0 && 0 < bNow && !a.breach

/-- The three parts of a debit (R31 to R33), before the breach test. -/
def Account.debit (a : Account) (m : MeasSet) : Account :=
  ((a.debitBank m.bankPower).average (buildingDraw m)).debitReserve (buildingDraw m)

/-- A debited scan is debited (R31 to R33). -/
def State.debitScan (s : State) (m : MeasSet) : State :=
  let a := s.account.debit m
  if a.breached (buildingDraw m) then (s.modAccount fun _ => { a with breach := true }).notifyBoth .reserveBreach
  else s.modAccount fun _ => a

/-- The account clamped to the settings in use (R28, R35). -/
def Account.clampTo (a : Account) (cap rB : Nat) : Account :=
  { a with eBank := min a.eBank cap, rLeft := min a.rLeft (min rB (min a.eBank cap)) }

/-- A claim made in an outage mode (R34). -/
def Account.claim (a : Account) (rB : Nat) : Account :=
  { a with rLeft := min rB a.eBank, resBldg := if min rB a.eBank = 0 then 0 else a.resBldg }

/-! ### The scan -/

/-- The scan in progress is abandoned (R20). -/
def State.dropScan (s : State) : State := s.modBank fun b => { b with scanPos := none }

/-- The completed set replaces the last one as a whole (R19, R21). -/
def State.replaceSet (s : State) (m : MeasSet) : State :=
  s.modBank fun b => { b with scanPos := none, last := m, valid := true, scanCount := b.scanCount + 1 }

/-- The scan that completes now is a debited scan (R19). -/
def State.debited (s : State) : Bool := s.bank.accountMark && s.mode.isOutageMode

/-- The cutoff run count after a debited scan (R24). -/
def State.cutoffTest (s : State) (vBank : Nat) : State :=
  s.modBank fun b => { b with cutoffRun := if vBank < s.settings.vCut then b.cutoffRun + 1 else 0 }

/-- V_feed as the trickle limit takes it (R60). -/
def Bank.feedVoltage (b : Bank) : Nat := if b.valid = false ∨ b.last.vFeed < 10000 then 48000 else b.last.vFeed

/-- The trickle limit of a draw (R60). -/
def Bank.trickleLimit (b : Bank) (dt : Nat) : Nat := dt * 10000 / b.feedVoltage

/-- The port's trickle limit is recomputed (R60). -/
def State.computeLimit (s : State) (p : Port) : State :=
  s.modPort p fun r => { r with trickleLimit := s.bank.trickleLimit r.prov.dt }

/-- Every port's trickle limit is recomputed (R60). -/
def State.computeLimits (s : State) : State :=
  s.mapPorts fun _ r => { r with trickleLimit := s.bank.trickleLimit r.prov.dt }

end Sys2Proof.Machine
end

