-- ==== Sys2Proof/Machine/Ring.lean ====
section
/-! DEFINITION. The Result Ring's operations (chapter 8): removal sweeps, the append of a record, and the refusal mark. -/

namespace Sys2Proof.Machine

open Sys2Proof

/-- The place in the list of the record that a cursor designates, the length of the list for "end" (R145). -/
def cursorIndex (records : List TestRecord) (c : Option (BitVec 16)) : Nat :=
  match c with
  | none => records.length
  | some q => records.findIdx fun r => r.seq = q

/-- The cursor at a place of the list: the record there, or "end" past the newest (R145). -/
def cursorAt (records : List TestRecord) (i : Nat) : Option (BitVec 16) := (records[i]?).map fun r => r.seq

/-- The refusal mark is judged (R149). -/
def State.judgeRefusal (s : State) : State :=
  s.modRing fun g => { g with refusal := s.settings.ringMode = .hold && Config.ringLimit ≤ g.records.length }

/-- What the removal of the `k` oldest of `records` does to one link (R146): a cursor on a removed record moves to the
oldest that remains or to "end", the missed-record count rises, and RING_OVERRUN is raised for that link. -/
def State.sweepLink (s : State) (records : List TestRecord) (k : Nat) (l : Link) : State :=
  let i := cursorIndex records (s.link l).cursor
  if i < k then
    (s.modLink l fun c => { c with cursor := cursorAt records k, missed := min (c.missed + (k - i)) 255 }).notify l .ringOverrun
  else s

/-- A removal sweep of the `k` oldest records (R146). -/
def State.sweep (s : State) (k : Nat) : State :=
  let records := s.ring.records
  let k := min k records.length
  (((s.modRing fun g => { g with records := g.records.drop k }).sweepLink records k .oLink).sweepLink records k .bLink).judgeRefusal

/-- How many records from the oldest end the cursor of every following link is past (R148); 0 when no link follows. -/
def State.releasable (s : State) : Nat :=
  let io := cursorIndex s.ring.records s.oLink.cursor
  let ib := cursorIndex s.ring.records s.bLink.cursor
  match s.oLink.follow, s.bLink.follow with
  | true, true => min io ib
  | true, false => io
  | false, true => ib
  | false, false => 0

/-- The removal sweep that follows a read, a seek or a change of follow flag in HOLD (R148). -/
def State.holdSweep (s : State) : State :=
  if s.settings.ringMode = .hold then s.sweep s.releasable else s

/-- A cursor that stands at "end" is set to the new record (R143, step 5). -/
def LinkContext.takeNew (c : LinkContext) (seq : BitVec 16) : LinkContext :=
  { c with cursor := match c.cursor with
    | none => some seq
    | some q => some q }

/-- The ring appends a record, in the steps of R143. -/
def State.appendRecord (s : State) (r : TestRecord) : State :=
  let s₁ := if Config.ringLimit ≤ s.ring.records.length then s.sweep 1 else s
  let q := s₁.ring.nextSeq
  let s₂ := s₁.modRing fun g => { g with records := g.records ++ [{ r with seq := q }], nextSeq := q + 1 }
  let s₃ := s₂.modPort r.port fun x => { x with lastSeq := some q }
  let s₄ := (s₃.modLink .oLink fun c => c.takeNew q).modLink .bLink fun c => c.takeNew q
  (s₄.notifyBoth .testDone).judgeRefusal

end Sys2Proof.Machine
end

