-- ==== Sys2Proof/Machine/TestEngine.lean ====
section
/-! DEFINITION. The Test Engine's operations (chapter 7): the start walk, the stages of a test, grading, and the ways a
test ends. -/

namespace Sys2Proof.Machine

open Sys2Proof

/-- The port's running test (R126). -/
def State.testOf (s : State) (p : Port) : Option TestContext := s.tests.contexts.find? fun c => c.port = p

/-- Changes the port's test context. -/
def State.modTest (s : State) (p : Port) (f : TestContext → TestContext) : State :=
  s.modTests fun t => { t with contexts := t.contexts.map fun c => if c.port = p then f c else c }

/-- The port stands in the test queue. -/
def State.inTestQueue (s : State) (p : Port) : Bool := s.tests.queue.any fun e => e.1 = p

/-- Removes the port from the test queue. -/
def State.dequeueTest (s : State) (p : Port) : State :=
  s.modTests fun t => { t with queue := t.queue.filter fun e => e.1 ≠ p }

/-- Adds a port at the end of the test queue (R123, R124). -/
def State.enqueueTest (s : State) (p : Port) (o : TestOrigin) : State :=
  s.modTests fun t => { t with queue := t.queue ++ [(p, o)] }

/-! ### TESTING -/

/-- The Port Controller takes a port into TESTING (R64). -/
def State.enterTesting (s : State) (p : Port) : State :=
  if (s.port p).feed.fed && s.mode.runsPasses then ((s.setFeed p .testing).clearRuns p).requestPass .feed else s

/-- The Port Controller takes a port out of TESTING (R65). -/
def State.leaveTesting (s : State) (p : Port) : State :=
  if (s.port p).feed = .testing then
    if s.mode.runsPasses then (s.setFeed p .shed).requestPass .feed else s.setFeed p .off
  else s

/-! ### Records -/

/-- The record of a test that ends now (R139); the ring gives it its number. -/
def State.recordOf (s : State) (c : TestContext) (o : TestOutcome) : TestRecord :=
  { seq := 0, outageNumber := s.mains.outageNumber, port := c.port, origin := c.origin, start := c.start,
    dwell := match c.entered with
      | some t => (s.now - t) / 1000
      | none => 0
    outcome := o, v0 := c.v0, v1 := c.v1 }

/-- The port's test ends: its record is handed to the ring and its context freed (R139). -/
def State.endTest (s : State) (p : Port) (o : TestOutcome) : State :=
  match s.testOf p with
  | none => s
  | some c =>
    (s.appendRecord (s.recordOf c o)).modTests fun t => { t with contexts := t.contexts.filter fun c => c.port ≠ p }

/-- The port's test is aborted (R134). -/
def State.abortTest (s : State) (p : Port) (o : TestOutcome) : State :=
  match s.testOf p with
  | none => s
  | some _ => (((s.dropEntries fun e => e.port = p && e.origin = .test).leaveTesting p).endTest p o)

/-- Every running test is aborted, in port order (R137). -/
def State.abortTests (s : State) (o : TestOutcome) : State := allPorts.foldl (fun s p => s.abortTest p o) s

/-- Entry into RELEASING or DEPLETED: every test is aborted, the queue emptied, and a WAITING survey is DONE (R137). -/
def State.stopTests (s : State) (o : TestOutcome) : State :=
  (s.abortTests o).modTests fun t =>
    { t with queue := [], survey := if t.survey = .waiting then .done else t.survey }

/-- A terminal flag aborts the test of a port in TESTING (R135). -/
def State.flagTest (s : State) (p : Port) : State :=
  if (s.port p).feed = .testing then s.abortTest p .abortedTerminal else s

/-! ### Grading -/

/-- The grade of a test (R133); the sag may be negative. -/
def gradeOf (st : Settings) (v0 v1 : Nat) : Battery :=
  if v1 < st.vFail ∨ (st.sagMax : Int) < (v0 : Int) - (v1 : Int) then .failed else if v1 < st.vGood then .weak else .good

/-- The outcome that equals a grade (R133). -/
def Battery.outcome : Battery → TestOutcome
  | .good => .good
  | .weak => .weak
  | .failed => .failed
  | .unknown => .noReport

/-- The post-query has its reply (R130): V1, the grade, the return to the budget, the record. -/
def State.gradeTest (s : State) (p : Port) (c : TestContext) (v1 : Nat) : State :=
  let g := gradeOf s.settings (c.v0.getD 0) v1
  ((((s.modTest p fun c => { c with v1 := some v1 }).setBattery p g).leaveTesting p).endTest p g.outcome)

/-- The post-query has failed for good (R131). -/
def State.loseTest (s : State) (p : Port) : State :=
  (((((s.setBattery p .failed).setTerminal p .unknown).leaveTesting p).endTest p .lostOnBattery).autoWake p)

/-- A TEST entry's final failure (R127, R128, R131). -/
def State.failTest (s : State) (p : Port) : State :=
  match s.testOf p with
  | none => s
  | some c =>
    match c.stage with
    | .preQuery | .begin_ => s.endTest p .noReport
    | .postQuery => s.loseTest p
    | .dwell => s

/-- The Test Engine requests an entry; one dropped at a full queue is a final failure (R96, R127). -/
def State.requestTest (s : State) (p : Port) (k : RequestKind) : State :=
  if s.requestFate p k .test = .full then (s.request p k .test).failTest p else s.request p k .test

/-- A TEST entry's success (R127, R128, R130). -/
def State.advanceTest (s : State) (p : Port) (k : RequestKind) (r : Reply) : State :=
  match s.testOf p with
  | none => s
  | some c =>
    match c.stage, k with
    | .preQuery, .batteryQuery =>
      (s.modTest p fun c => { c with v0 := some (r.value * 4), stage := .begin_ }).requestTest p .testBegin
    | .begin_, .testBegin =>
      (s.enterTesting p).modTest p fun c =>
        { c with stage := .dwell, entered := some s.now, dwellEnd := some (s.now + s.settings.dwell * 1000) }
    | .postQuery, .batteryQuery => s.gradeTest p c (r.value * 4)
    | _, _ => s

/-! ### Starting tests -/

/-- The port's queue entry may start its test (R125). A queued port has no test running (R123). -/
def State.startable (s : State) (p : Port) : Bool :=
  (s.port p).prov.enabled && (s.port p).feed.fed && (s.port p).lineState ≠ .muted && (s.port p).terminal ≠ .absent &&
    (s.testOf p).isNone

/-- The walk may act (R125). -/
def State.mayStart (s : State) : Bool :=
  s.mode = .outage && s.tests.contexts.length < s.settings.testLimit && !s.ring.refusal

/-- A test starts (R127). -/
def State.startTest (s : State) (p : Port) (o : TestOrigin) : State :=
  ((s.dequeueTest p).modTests fun t =>
    { t with contexts := t.contexts ++
      [{ port := p, origin := o, stage := .preQuery, start := s.time.clock, v0 := none, v1 := none, entered := none,
         dwellEnd := none }] }).requestTest p .batteryQuery

/-- One entry of the queue in a start walk (R125). -/
def State.walkEntry (s : State) (e : Port × TestOrigin) : State :=
  if s.mayStart && s.startable e.1 then s.startTest e.1 e.2 else s

/-- A start walk over the queue (R125). -/
def State.startWalk (s : State) : State := s.tests.queue.foldl State.walkEntry s

/-- The survey adds a port (R124). -/
def State.surveyPort (s : State) (p : Port) : State :=
  if (s.port p).prov.enabled && (s.port p).battery = .unknown && (s.testOf p).isNone && !s.inTestQueue p then
    s.enqueueTest p .survey
  else s

/-- A WAITING survey falls due when the outage clock has reached its delay (R124). -/
def State.judgeSurvey (s : State) : State :=
  if s.tests.survey = .waiting ∧ s.mode.runsPasses = true ∧ s.settings.surveyDelay ≤ s.time.clock then
    let s₁ := s.modTests fun t => { t with survey := .done }
    if s.settings.surveyOn then allPorts.foldl State.surveyPort s₁ else s₁
  else s

end Sys2Proof.Machine
end

