-- ==== Sys2Proof/Machine/Outcomes.lean ====
section
/-! DEFINITION. What the end of a transaction does to every block (R102): the port record (R77), the origin, the other
wakes (R115), the Message Store, the line error count and the mute (R106); the end of a release (R67, R119) and of
RELEASING (R12); expiry of an entry (R98); faults (R71). -/

namespace Sys2Proof.Machine

open Sys2Proof

/-! ### Releases and the end of RELEASING -/

/-- The mode becomes STANDBY from RELEASING or DEPLETED (R12, R14, R25): the cutoff run count is cleared and OUTAGE_END
is raised. -/
def State.enterStandby (s : State) : State :=
  ((s.modMains fun m => { m with mode := .standby, qual := .none, count := 0 }).modBank fun b =>
    { b with cutoffRun := 0 }).notifyBoth .outageEnd

/-- The Mains Qualifier is told when no port remains in TRICKLE or FULL in RELEASING (R12, R67). A scan started in RELEASING
that completes after it is not debited, whatever the mode is by then: its account mark goes (R19). -/
def State.checkReleased (s : State) : State :=
  if s.mode = .releasing ∧ s.noneFed = true then (s.modBank fun b => { b with accountMark := false }).enterStandby else s

/-- A port's release ends acknowledged or exhausted (R67, R119). -/
def State.endRelease (s : State) (p : Port) : State :=
  let s₁ := s.modPort p fun r => { r with release := false }
  if (s.port p).feed.fed then ((s₁.setFeed p .off).clearRuns p).checkReleased else s₁

/-! ### Replies -/

/-- The d_f that a DRAW reply teaches (R78). -/
def learnedDraw (dt value : Nat) : Nat := max dt (min 2500 (max 10 value))

/-- The terminal state that a STATUS value gives, none for 3 and above (R77). -/
def statusTerminal : Nat → Option Terminal
  | 0 => some .asleep
  | 1 => some .awake
  | 2 => some .call
  | _ => none

/-- The Port Controller takes a valid reply (R77, R78). -/
def State.takeReply (s : State) (p : Port) (r : Reply) : State :=
  match r.kind with
  | .status =>
    match statusTerminal r.value with
    | some t =>
      (s.modPort p fun x =>
        { x with pollMark := false, noLoadRun := if x.terminal = .absent then 0 else x.noLoadRun }).setTerminal p t
    | none => s
  | .battery => s.modPort p fun x => { x with lastMv := some (r.value * 4) }
  | .draw =>
    let d := learnedDraw (s.port p).prov.dt r.value
    if (s.port p).prov.df = d then s
    else (s.modPort p fun x => { x with prov := { x.prov with df := d } }).requestPass .setting
  | .ack => s

/-- The reply is a STATUS of value 1 or 2 (R115). -/
def Reply.showsAwake (r : Reply) : Bool := r.kind = .status && (r.value = 1 || r.value = 2)

/-- A STATUS reply of value 1 or 2 from a transaction that is not the wake's own ends a standing wake (R115). -/
def State.wakeByReply (s : State) (t : Transaction) (r : Reply) : State :=
  if t.kind ≠ .wake ∧ r.showsAwake = true ∧ (s.port t.port).wake.isSome = true then s.endWake t.port else s

/-- The success of an entry is reported to its origin (R102). -/
def State.tellSuccess (s : State) (t : Transaction) (r : Reply) : State :=
  match t.origin with
  | .oLink | .auto => s
  | .wake => s.endWake t.port
  | .test => s.advanceTest t.port t.kind r
  | .release => s.endRelease t.port

/-- The final failure of an entry is reported to its origin (R102). -/
def State.tellFailure (s : State) (t : Transaction) : State :=
  match t.origin with
  | .oLink | .auto => s
  | .wake => s.failWake t.port
  | .test => s.failTest t.port
  | .release => s.endRelease t.port

/-! ### Entries that go back to the queue, or expire -/

/-- An entry expires (R98). -/
def State.expireEntry (s : State) (e : Entry) : State :=
  let s₁ := s.removeEntry e.port e.kind e.origin.cls
  match e.origin with
  | .oLink => s₁.notify .oLink .signalDropped
  | .release => s₁.endRelease e.port
  | .auto | .wake | .test => s₁

/-- The entry of a transaction goes back to the queue with this not-before time, unless its expiry (R98) or its wake's
(R114) has come. -/
def State.putBack (s : State) (t : Transaction) (notBefore : Nat) : State :=
  let s₁ := s.modEntry t.port t.kind t.origin.cls fun e => { e with inLane := false, notBefore := notBefore }
  match s₁.entry? t.port t.kind t.origin.cls with
  | none => s₁
  | some e =>
    if e.overdue s.now then s₁.expireEntry e
    else if t.origin = .wake ∧ s.wakeOverdue t.port = true then s₁.expireWake t.port
    else s₁

/-- A failed attempt is consumed (R97, R102): the entry waits out its spacing, or is removed and reported. -/
def State.consumeAttempt (s : State) (t : Transaction) : State :=
  match s.entry? t.port t.kind t.origin.cls with
  | none => s
  | some e =>
    if e.attempts ≤ 1 then (s.removeEntry t.port t.kind t.origin.cls).tellFailure t
    else
      (s.modEntry t.port t.kind t.origin.cls fun e => { e with attempts := e.attempts - 1 }).putBack t
        (s.now + spacing t.kind)

/-! ### The mute -/

/-- A port's line enters MUTED (R106). The pass of step 4 is requested whether or not the terminal state changes (log entry
36). -/
def State.mute (s : State) (p : Port) : State :=
  let s₁ := (s.dropEntries fun e => e.port = p).abortTest p .abortedLine
  let s₂ := if (s₁.port p).wake.isSome then (s₁.dropWake p).notifyBoth .wakeFailed else s₁
  let s₃ := if (s₂.port p).release then s₂.endRelease p else s₂
  ((s₃.setTerminal p .unknown).requestPass .demand).notifyBoth .lineMuted

/-! ### The four outcomes (R102) -/

/-- A valid reply of the expected kind. -/
def State.applySuccess (s : State) (t : Transaction) (r : Reply) : State :=
  let s₁ := (s.lineSuccess t.port).removeEntry t.port t.kind t.origin.cls
  (((s₁.takeReply t.port r).wakeByReply t r).tellSuccess t r).deliver t.port r

/-- A valid reply of another kind. The wake that a STATUS of value 1 or 2 ends is the one that stood when the reply came, so
it ends before the origin is told (R115, R131; log entry 32). -/
def State.applyMismatch (s : State) (t : Transaction) (r : Reply) : State :=
  (((s.takeReply t.port r).wakeByReply t r).consumeAttempt t).deliver t.port r

/-- NO_REPLY, SYMBOL or CHECK. -/
def State.applyFailure (s : State) (t : Transaction) : State :=
  let s₁ := s.lineFailure t.port
  if (s₁.port t.port).lineState = .muted then s₁.mute t.port else s₁.consumeAttempt t

/-- A terminal flag in the window (R94). -/
def State.applyFlag (s : State) (t : Transaction) : State :=
  ((s.putBack t (s.now + spacing t.kind)).request t.port .poll .auto).flagTest t.port

/-- The transaction's entry has left the queue (R104). -/
def State.orphaned (s : State) (t : Transaction) : Bool :=
  match s.entry? t.port t.kind t.origin.cls with
  | some e => !e.inLane
  | none => true

/-- The outcomes of a transaction (R102). -/
inductive LaneOutcome where
  | replied (r : Reply)
  | failed
  | flagged
deriving DecidableEq, Repr

/-- A lane's transaction ends (R101, R102): the lane is FREE, and the outcome is applied unless the transaction is
orphaned (R104). -/
def State.endTransaction (s : State) (i : LaneId) (t : Transaction) (o : LaneOutcome) : State :=
  let s₁ := s.setLane i none
  if s.orphaned t then s₁
  else
    match o with
    | .replied r => if r.kind = expectedReply t.kind then s₁.applySuccess t r else s₁.applyMismatch t r
    | .failed => s₁.applyFailure t
    | .flagged => s₁.applyFlag t

/-! ### Faults -/

/-- A fault on a port in TRICKLE or FULL (R71). -/
def State.faultPort (s : State) (p : Port) (c : FaultCause) : State :=
  let n := min ((s.port p).faultCount + 1) 3
  let s₁ := s.modPort p fun r => { r with faultCount := n, faultCause := some c }
  if s.mode.runsPasses then
    let s₂ := (s₁.setFeed p (if n = 3 then .lockedOut else .fault)).clearRuns p
    ((((s₂.setTerminal p .unknown).modPort p fun r => { r with pollMark := true }).notifyBoth .portFault).requestPass .feed)
  else
    let s₂ := (s₁.removeEntry p .release .other).modPort p fun r => { r with release := false }
    let s₃ := (s₂.setFeed p (if n = 3 then .lockedOut else .off)).clearRuns p
    ((s₃.setTerminal p .unknown).notifyBoth .portFault).checkReleased

end Sys2Proof.Machine
end

