-- ==== Sys2Proof/Machine/Passes.lean ====
section
/-! DEFINITION. Running passes (R40 to R42, R52 to R54, R63): beginning one, applying its result, completing it, running
one within a mode transition, abandoning one; and the end of a step, when the step's requests are served. -/

namespace Sys2Proof.Machine

open Sys2Proof

/-- A pass begins: it reads what it needs and marks itself in progress (R41). -/
def State.beginPass (s : State) (causes : BitVec 8) : State :=
  s.modBudget fun b => { b with work := some { input := s.passInput, causes := causes, departed := 0 } }

/-- The pass in progress, the pass-pending mark and the requests of this step are cleared (R41). -/
def State.abandonPass (s : State) : State :=
  s.modBudget fun b => { b with work := none, pendingPass := false, nextCauses := 0, requested := 0 }

/-- The Port Controller takes a result for one port (R52, R53, R63): the class and the held mark of a port that has one,
and the AUTO POLL of a marked port that the result feeds. A class of none leaves the port as it is. -/
def State.placePort (r : PassResult) (s : State) (p : Port) : State :=
  if r.classes[p] = .none then s
  else
    let s₁ := (s.setFeed p r.classes[p].feed).modPort p fun x => { x with held := r.held[p] }
    if (s.port p).pollMark && r.classes[p].feed.fed then
      (s₁.modPort p fun x => { x with pollMark := false }).request p .poll .auto
    else s₁

/-- A pass's result is handed on (R52): the ports in port order, the parked wakes, SHED_CHANGE, the record. -/
def State.applyPass (s : State) (w : PassWork) : State :=
  let r := w.result (s.budget.result.passCount + 1)
  let s₁ := (allPorts.foldl (State.placePort r) s).unpark fun p => r.classes[p] = .full
  let s₂ := if r.classes = s.budget.result.classes then s₁ else s₁.notifyBoth .shedChange
  s₂.modBudget fun b => { b with result := r }

/-- The pass in progress ends (R41, R52), and a pending pass begins at once. -/
def State.completePass (s : State) : State :=
  match s.budget.work with
  | none => s
  | some w =>
    let s₁ := s.applyPass w
    let causes := s₁.budget.nextCauses ||| s₁.budget.requested
    if (s₁.budget.pendingPass || s₁.budget.requested ≠ 0) && s₁.mode.runsPasses then s₁.abandonPass.beginPass causes
    else s₁.abandonPass

/-- The pass of a mode transition begins and ends within it (R41); the kinds of a pass that it abandons join its own
(R42). -/
def State.transitionPass (s : State) (kinds : BitVec 8) : State :=
  let causes := kinds ||| (match s.budget.work with
    | some w => w.causes
    | none => 0)
  s.abandonPass.applyPass { input := s.passInput, causes := causes, departed := 0 }

/-- The requests of this step are served (R41): they begin one pass, or join the pending one. -/
def State.flushPass (s : State) : State :=
  if s.budget.requested = 0 then s
  else
    match s.budget.work with
    | some _ =>
      s.modBudget fun b =>
        { b with pendingPass := true, nextCauses := b.nextCauses ||| b.requested, requested := 0 }
    | none => (s.modBudget fun b => { b with requested := 0 }).beginPass s.budget.requested

/-- The end of a step: the Test Engine walks its queue (R125), the requests for passes are served (R41), and the lane
arbiter acts (R100); log entry 5. -/
def State.finish (s : State) : State := s.startWalk.flushPass.arbitrate

end Sys2Proof.Machine
end

