-- ==== Sys2Proof/Machine/Modes.lean ====
section
/-! DEFINITION. The mode transitions of the Mains Qualifier (R9 to R14), the tables of EDGE and LEVEL style (R5, R6),
and what SET-MAINS and RESTART do to a qualification (R7, R17). -/

namespace Sys2Proof.Machine

open Sys2Proof

/-- The count of a qualification that starts from zero (R5, R6, R17). -/
def Style.fromZero : Style → Nat
  | .edge => 0
  | .level => 1

/-- The mode and the qualification are set; a qualification of `none` stops the count at 0. -/
def State.setMode (s : State) (m : Mode) (q : Qual) (count : Nat) : State :=
  s.modMains fun x => { x with mode := m, qual := q, count := count }

/-- The mode becomes `m` with a qualification from zero. -/
def State.startQual (s : State) (m : Mode) (q : Qual) : State := s.setMode m q s.settings.style.fromZero

/-! ### Outage start (R9) -/

/-- The port record at outage start (R66), with the line error count of step 5. -/
def PortRecord.atOutageStart (r : PortRecord) (now : Nat) : PortRecord :=
  let r₁ := if r.prov.enabled ∧ r.feed = .off then { r.withFeed .shed now with pollMark := true } else r
  { r₁ with
    terminal := .unknown
    faultCount := 0
    faultCause := if r.feed = .lockedOut then r.faultCause else none
    overdrawRun := 0
    noLoadRun := 0
    lineErr := 0 }

/-- An outage is qualified and starts (R9). -/
def State.outageStart (s : State) : State :=
  let s₁ := (s.setMode .outage .none 0).modMains fun m => { m with outageNumber := m.outageNumber + 1 }
  let s₂ := (s₁.modTime fun t => { t with clock := 0 }).modAccount fun _ => estimate s.settings s.bank.last.vBank
  let s₃ := s₂.mapPorts fun _ r => r.atOutageStart s.now
  let s₄ := (s₃.modTests fun t => { t with survey := .waiting }).judgeSurvey
  let s₅ := s₄.modBudget fun b => { b with result := { b.result with classes := Vector.replicate 32 .none } }
  (s₅.transitionPass PassKind.outageStart.bit).notifyBoth .outageBegin

/-- An outage qualification is due: it completes, or is held until a scan has completed (R8). -/
def State.qualifyOutage (s : State) : State := if s.bank.valid then s.outageStart else s

/-! ### RESTORING (R10) -/

/-- Return of mains in OUTAGE (R10). -/
def State.enterRestoring (s : State) : State := s.startQual .restoring .restore

/-- Loss of mains in RESTORING (R10). -/
def State.loseInRestoring (s : State) : State := s.setMode .outage .none 0

/-! ### RELEASING (R11, R12) -/

/-- Every wake ends without an outcome (R116). -/
def State.endWakes (s : State) : State :=
  (s.mapPorts fun _ r => { r with wake := none }).modWakes fun _ => { parked := [], settling := [] }

/-- Every release ends without a report (R119). -/
def State.endReleases (s : State) : State := s.mapPorts fun _ r => { r with release := false }

/-- The release of one port starts (R118); one dropped at a full queue is exhausted (R96). -/
def State.startRelease (s : State) (p : Port) : State :=
  let s₁ := (s.modPort p fun r => { r with release := true }).request p .release .release
  if s.requestFate p .release .release = .full then s₁.endRelease p else s₁

/-- The releases of every port in TRICKLE or FULL start, in port order (R118). -/
def State.startReleases (s : State) : State :=
  allPorts.foldl (fun s p => if (s.port p).feed.fed then s.startRelease p else s) s

/-- A port goes OFF on entry into RELEASING unless it is fed or LOCKED_OUT (R67). -/
def State.offUnlessFed (s : State) (p : Port) : State :=
  match (s.port p).feed with
  | .shed | .fault | .testing => s.setFeed p .off
  | .off | .trickle | .full | .lockedOut => s

/-- The restore qualification completes in RESTORING (R11). -/
def State.enterReleasing (s : State) : State :=
  let s₁ := ((s.setMode .releasing .none 0).abandonPass.dropScan.stopTests .abortedMains).endWakes
  let s₂ := s₁.dropEntries fun e => e.kind ≠ .release
  (allPorts.foldl State.offUnlessFed s₂).startReleases.checkReleased

/-- The port record at a resumed outage (R66). -/
def PortRecord.atResumedOutage (r : PortRecord) (now : Nat) : PortRecord :=
  if r.prov.enabled ∧ r.feed = .off then { r.withFeed .shed now with terminal := .unknown, pollMark := true } else r

/-- Mains lost in RELEASING (R12), up to its pass. -/
def State.resumePorts (s : State) : State :=
  (((s.setMode .outage .none 0).dropEntries fun e => e.kind = .release).endReleases).mapPorts fun _ r =>
    r.atResumedOutage s.now

/-- Mains lost in RELEASING: the same outage continues (R12). -/
def State.resumeOutage (s : State) : State := s.resumePorts.transitionPass PassKind.resume.bit

/-! ### DEPLETED (R13, R14) -/

/-- The qualification on entry into DEPLETED (R13). -/
def State.depletedQual (s : State) : State :=
  if s.mode = .restoring then s.modMains fun m => { m with mode := .depleted }
  else if s.mains.sample then s.startQual .depleted .restore
  else s.setMode .depleted .none 0

/-- A port goes OFF on entry into DEPLETED unless it is LOCKED_OUT, and its marks and run counts are cleared (R68). -/
def State.depletePort (s : State) (p : Port) : State :=
  ((if (s.port p).feed = .lockedOut then s else s.setFeed p .off).clearRuns p).modPort p fun r =>
    { r with held := false, pollMark := false }

/-- The bank is at cutoff (R13). -/
def State.enterDepleted (s : State) : State :=
  let s₁ := s.depletedQual.abandonPass.modBank fun b => { b with scanPos := none, cutoffRun := 0 }
  let s₂ := ((s₁.stopTests .abortedDepleted).endWakes.endReleases).dropEntries fun _ => true
  let s₃ := allPorts.foldl State.depletePort s₂
  (s₃.modAccount fun a => { a with eBank := 0, rLeft := 0 }).notifyBoth .depleted

/-- A restore qualification completes (R5, R6): RESTORING becomes RELEASING (R11), DEPLETED becomes STANDBY (R14). -/
def State.restoreQualified (s : State) : State :=
  match s.mode with
  | .restoring => s.enterReleasing
  | .depleted => s.enterStandby
  | .standby | .qualifying | .outage | .releasing => s

/-- MAINS_OK returns in QUALIFYING: STANDBY, with no outage counted (R5, R6). -/
def State.cancelOutage (s : State) : State :=
  (s.setMode .standby .none 0).modBank fun b => { b with cutoffRun := 0 }

/-! ### The tables of the two styles -/

/-- What the level of MAINS_OK starts or ends at once: the table of R5, which is also what R7 and R17 make of the
current sample, with counts from zero in the style in use. A level that agrees with the mode changes nothing. -/
def State.edgeTable (s : State) (present : Bool) : State :=
  match s.mode, present with
  | .standby, false => s.startQual .qualifying .outage
  | .qualifying, true => s.cancelOutage
  | .outage, true => s.enterRestoring
  | .restoring, false => s.loseInRestoring
  | .releasing, false => s.resumeOutage
  | .depleted, false => s.setMode .depleted .none 0
  | .depleted, true => s.startQual .depleted .restore
  | .standby, true | .qualifying, false | .outage, false | .restoring, true | .releasing, true => s

/-- The qualification set afresh from the current sample (R7, R17): the table, with a qualification that goes on
starting from zero. -/
def State.requalify (s : State) : State :=
  match s.mode, s.mains.sample with
  | .qualifying, false => s.startQual .qualifying .outage
  | .restoring, true => s.startQual .restoring .restore
  | _, present => s.edgeTable present

/-- The LEVEL count rises by one, up to 6,000 (R3, R6). -/
def State.countUp (s : State) : State := s.modMains fun m => { m with count := min (m.count + 1) 6000 }

/-- The LEVEL count falls by one, not below 0 (R6). -/
def State.countDown (s : State) : State := s.modMains fun m => { m with count := m.count - 1 }

/-- The qualification in progress is due (R5, R6). -/
def State.qualDue (s : State) : Bool := s.mains.qual ≠ .none && s.target ≤ s.mains.count

/-- The qualification in progress completes if it is due (R5 to R8). -/
def State.completeIfDue (s : State) : State :=
  if s.qualDue then
    match s.mains.qual with
    | .outage => s.qualifyOutage
    | .restore => s.restoreQualified
    | .none => s
  else s

/-- The table of R6 for one 100 ms sample. In DEPLETED a count of 0 is no qualification in progress. -/
def State.levelTable (s : State) (present : Bool) : State :=
  match s.mode, present with
  | .qualifying, false => s.countUp.completeIfDue
  | .qualifying, true => if s.mains.count ≤ 1 then s.cancelOutage else s.countDown
  | .restoring, true => s.countUp.completeIfDue
  | .restoring, false => if s.mains.count ≤ 1 then s.loseInRestoring else s.countDown
  | .depleted, true => if s.mains.qual = .none then s.startQual .depleted .restore else s.countUp.completeIfDue
  | .depleted, false => if s.mains.count ≤ 1 then s.setMode .depleted .none 0 else s.countDown
  | .standby, _ | .outage, _ | .releasing, _ => s.edgeTable present

/-- SET-MAINS on the mode and the qualification in progress (R7): a change of style sets both afresh; a change of T_q or
T_r alone is judged at once; a repetition changes nothing. -/
def State.takeMains (s : State) (style : Style) (tq tr : Nat) : State :=
  let s₁ := s.modSettings fun x => { x with style := style, tq := tq, tr := tr }
  if style ≠ s.settings.style then s₁.requalify
  else if tq ≠ s.settings.tq ∨ tr ≠ s.settings.tr then s₁.completeIfDue
  else s₁

end Sys2Proof.Machine
end

