-- ==== Sys2Proof/Machine/Provisioning.lean ====
section
/-! DEFINITION. Provisioning a port: enabling (R81), disabling (R82), and the setting of its fields (R79, R80, R83). -/

namespace Sys2Proof.Machine

open Sys2Proof

/-- Writes the provisioning of a port. -/
def State.modProv (s : State) (p : Port) (f : Provision → Provision) : State :=
  s.modPort p fun r => { r with prov := f r.prov }

/-- A disabled port is enabled (R81). -/
def State.enablePort (s : State) (p : Port) : State :=
  let s₁ := s.modProv p fun v => { v with enabled := true }
  if (s.port p).feed = .off ∧ s.mode.runsPasses = true then
    (((s₁.setFeed p .shed).setTerminal p .unknown).modPort p fun r => { r with pollMark := true }).requestPass .feed
  else s₁

/-- Step 1 of disabling (R82): the Port Controller takes the port out of service. The port's queue entries are removed
before it, so that the transaction which its change of feed state abandons puts nothing back. -/
def State.retirePort (s : State) (p : Port) : State :=
  let s₁ := s.dropEntries fun e => e.port = p
  let s₂ := if (s.port p).feed = .lockedOut then s₁ else s₁.setFeed p .off
  let s₃ := (s₂.clearRuns p).modPort p fun r =>
    { r with held := false, pollMark := false, prov := { r.prov with enabled := false } }
  s₃.setTerminal p .unknown

/-- An enabled port is disabled, in the steps of R82, but for the end of RELEASING. Its wake is removed before the port goes
OFF, so that a SETTLING wake is not parked again on the way (R116: the disabling's pass alone). The pass
is requested for every port whose feed state the disabling changes: a candidate and a port in TESTING (R82, step 5), and one
in FAULT too (R40; log entry 34). -/
def State.vacatePort (s : State) (p : Port) : State :=
  let r := s.port p
  let s₁ := ((s.dropWake p).retirePort p).modPort p fun r => { r with release := false }
  let s₂ := (s₁.dequeueTest p).abortTest p .abortedMaster
  if r.feed ≠ .off ∧ r.feed ≠ .lockedOut then s₂.requestPass .feed else s₂

/-- An enabled port is disabled (R82); with the last fed port RELEASING ends (R12). -/
def State.disablePort (s : State) (p : Port) : State :=
  if (s.port p).feed.fed then (s.vacatePort p).checkReleased else s.vacatePort p

/-- A change of the enabled flag (R80). -/
def State.setEnabled (s : State) (p : Port) (enabled : Bool) : State :=
  if (s.port p).prov.enabled = enabled then s else if enabled then s.enablePort p else s.disablePort p

/-- A change of the grade (R80). -/
def State.setGrade (s : State) (p : Port) (g : Fin 4) : State :=
  if (s.port p).prov.grade = g then s else (s.modProv p fun v => { v with grade := g }).requestPass .setting

/-- A change of the repeat count (R80). -/
def State.setRepeat (s : State) (p : Port) (n : Repeat) : State := s.modProv p fun v => { v with rep := n }

/-- A change of the draws (R79): the trickle limit follows, and a change requests a pass. -/
def State.setDraws (s : State) (p : Port) (dt df : Nat) : State :=
  let s₁ := (s.modProv p fun v => { v with dt := dt, df := df }).computeLimit p
  if (s.port p).prov.dt = dt ∧ (s.port p).prov.df = df then s₁ else s₁.requestPass .setting

/-- The enabled flag as a reload gives it (R83). Whether RELEASING ends is judged with the mode that the RESTART sets
(R17), not at each port (log entry 9). -/
def State.reloadEnabled (s : State) (p : Port) (enabled : Bool) : State :=
  if (s.port p).prov.enabled = enabled then s else if enabled then s.enablePort p else s.vacatePort p

/-- The provisioning of a port as a reload gives it (R83). -/
def State.reloadPort (s : State) (p : Port) (v : Provision) : State :=
  (((s.reloadEnabled p v.enabled).setGrade p v.grade).setRepeat p v.rep).setDraws p v.dt v.df

end Sys2Proof.Machine
end

