-- ==== Sys2Proof/Machine/SettingCommands.lean ====
section
/-! DEFINITION. The commands of the budget, bank, mode, ring, test and wake settings (sections 10.3 to 10.5). -/

namespace Sys2Proof.Machine

open Sys2Proof

/-! ### SET-HOLD (R38, R177) -/

def specSetHold : CommandSpec := ⟨0x20, .oOnly, .always, 6⟩

/-- The budget settings take their values; a change requests a pass (R38). -/
def State.setHold (s : State) (th m pc : Nat) : State :=
  let t := s.modSettings fun x => { x with tHold := th, margin := m, pCeil := pc }
  if s.settings.tHold = th ∧ s.settings.margin = m ∧ s.settings.pCeil = pc then t else (t.requestPass .setting).flushPass

def State.serveSetHold (s : State) (ps : List Byte) : Taken :=
  match ps with
  | [a, b, c, d, e, f] =>
    let th := clamp 10 1440 (le16 a b)
    let m := clamp 0 2000 (le16 c d)
    let pc := clamp 0 9600 (le16 e f)
    (s.setHold th m pc).answer (.taken (th = le16 a b && m = le16 c d && pc = le16 e f)) (u16 th ++ u16 m ++ u16 pc)
  | _ => s.refuse .badLength

/-- SET_HOLD (R38). -/
def execSetHold (l : Link) (addr : Byte) (ps : List Byte) (s : State) : Host.Outcome State Fault Refusal :=
  .next (s.command l addr ps specSetHold fun t => t.serveSetHold ps)

/-! ### SET-BANK (R24, R28, R177) -/

def specSetBank : CommandSpec := ⟨0x21, .bOnly, .always, 6⟩

/-- C and V_cut take their values, and a lowered C clamps the account; a C raised or repeated leaves it (R24, R26, R28). -/
def State.setBank (s : State) (c vCut : Nat) : State :=
  let rB := min s.settings.rB c
  let a := if c < s.settings.cap then s.account.clampTo c rB else s.account
  let t := (s.modSettings fun x => { x with cap := c, vCut := vCut, rB := rB }).modAccount fun _ => a
  if c = s.settings.cap ∧ rB = s.settings.rB ∧ a.eBank = s.account.eBank ∧ a.rLeft = s.account.rLeft then t
  else (t.requestPass .setting).flushPass

def State.serveSetBank (s : State) (ps : List Byte) : Taken :=
  match ps with
  | [a, b, c, d, e, f] =>
    let cap := clamp 1000 2000000 (le32 a b c d)
    let v := clamp 36000 48000 (le16 e f)
    let t := s.setBank cap v
    t.answer (.taken (cap = le32 a b c d && v = le16 e f))
      (u32 cap ++ u16 v ++ u32 t.account.eBank ++ u32 t.settings.rB ++ u32 t.account.rLeft)
  | _ => s.refuse .badLength

/-- SET_BANK (R24, R28). -/
def execSetBank (l : Link) (addr : Byte) (ps : List Byte) (s : State) : Host.Outcome State Fault Refusal :=
  .next (s.command l addr ps specSetBank fun t => t.serveSetBank ps)

/-! ### SET-RESERVE (R34, R177) -/

def specSetReserve : CommandSpec := ⟨0x22, .bOnly, .always, 4⟩

/-- R_b takes its value, and in an outage mode the reserve is claimed anew (R34). -/
def State.setReserve (s : State) (rB : Nat) : State :=
  let t := s.modSettings fun x => { x with rB := rB }
  if s.mode.isOutageMode then
    let u := t.modAccount fun a => a.claim rB
    if rB = s.settings.rB ∧ u.account.rLeft = s.account.rLeft then u else (u.requestPass .setting).flushPass
  else t

def State.serveSetReserve (s : State) (ps : List Byte) : Taken :=
  match ps with
  | [a, b, c, d] =>
    let rB := min (le32 a b c d) s.settings.cap
    let t := s.setReserve rB
    t.answer (.taken (rB = le32 a b c d)) (u32 rB ++ u32 t.account.rLeft)
  | _ => s.refuse .badLength

/-- SET_RESERVE (R34). -/
def execSetReserve (l : Link) (addr : Byte) (ps : List Byte) (s : State) : Host.Outcome State Fault Refusal :=
  .next (s.command l addr ps specSetReserve fun t => t.serveSetReserve ps)

/-! ### BUILDING-LIMIT (R39, R160, R177) -/

def specBuildingLimit : CommandSpec := ⟨buildingLimitCode, .bOnly, .always, 1⟩

/-- The grade cap takes its value; a change requests a pass (R39). -/
def State.setLimit (s : State) (g : Fin 4) : State :=
  let t := s.modSettings fun x => { x with gCap := g }
  if s.settings.gCap = g then t else (t.requestPass .setting).flushPass

def State.serveBuildingLimit (s : State) (ps : List Byte) : Taken :=
  match ps with
  | [g] => (s.setLimit (gradeOfByte g)).answer (.taken (g.toNat ≤ 3)) (u8 (gradeOfByte g).val)
  | _ => s.refuse .badLength

/-- A broadcast BUILDING-LIMIT is taken without a reply (R160). -/
def State.broadcastLimit (s : State) (ps : List Byte) : State := (s.serveBuildingLimit ps).1

/-- BUILDING_LIMIT (R39), addressed to the unit or broadcast. -/
def execBuildingLimit (l : Link) (addr : Byte) (ps : List Byte) (s : State) : Host.Outcome State Fault Refusal :=
  .next (s.receive ⟨l, addr, buildingLimitCode, ps⟩
    (fun t => t.takeChecked ⟨l, addr, buildingLimitCode, ps⟩ specBuildingLimit fun u => u.serveBuildingLimit ps)
    (fun t => t.broadcastLimit ps))

/-! ### SET-OCV (R27, R178) -/

def specSetOcv : CommandSpec := ⟨0x24, .bOnly, .always, 21⟩

/-- The points that parameter bytes carry: v then s, two bytes each (R173). -/
def ocvPoints : List Byte → List OcvPoint
  | a :: b :: c :: d :: rest => ⟨le16 a b, le16 c d⟩ :: ocvPoints rest
  | _ => []

/-- A point of a list, (0, 0) past its end. -/
def pointAt (points : List OcvPoint) (i : Nat) : OcvPoint := (points[i]?).getD ⟨0, 0⟩

/-- The first five points, as the staging record holds them (R178). -/
def stagedPoints (points : List OcvPoint) : Vector OcvPoint 5 := Vector.ofFn fun i => pointAt points i.val

/-- The nine points of a staging record and a second part (R178). -/
def joinedTable (staged : Vector OcvPoint 5) (points : List OcvPoint) : Vector OcvPoint 9 :=
  Vector.ofFn fun i => if h : i.val < 5 then staged[i.val] else pointAt points (i.val - 4)

/-- The nine points of a table as reply bytes. -/
def tableBytes (t : Vector OcvPoint 9) : List Byte := t.toList.flatMap OcvPoint.bytes

/-- SET-OCV with part 0 fills the staging record; a part value other than 0 and 1 is refused (R178). -/
def State.serveOcvPart0 (s : State) (ps : List Byte) : Taken :=
  match ps with
  | part :: rest =>
    if part = 0 then State.answer { s with staging := some (stagedPoints (ocvPoints rest)) } .ok (u8 0)
    else s.refuse .badParam
  | [] => s.refuse .badLength

/-- SET-OCV with part 1 judges the table and takes it (R27, R178). -/
def State.serveOcvPart1 (s : State) (ps : List Byte) : Taken :=
  match ps with
  | part :: rest =>
    if part ≠ 1 then s.refuse .badParam
    else
      match s.staging with
      | none => s.refuse .badParam
      | some staged =>
        let t := { s with staging := none }
        let table := joinedTable staged (ocvPoints rest)
        if pointAt (ocvPoints rest) 0 ≠ staged[4] then t.refuse .badParam
        else if ocvValid table then
          (t.modSettings fun x => { x with ocv := table }).answer .ok (u8 1 ++ tableBytes table)
        else t.refuse .badParam
  | [] => s.refuse .badLength

/-- SET_OCV_PART_0 (R178), and a SET-OCV whose part is neither 0 nor 1. -/
def execSetOcvPart0 (l : Link) (addr : Byte) (ps : List Byte) (s : State) : Host.Outcome State Fault Refusal :=
  .next (s.command l addr ps specSetOcv fun t => t.serveOcvPart0 ps)

/-- SET_OCV_PART_1 (R178). -/
def execSetOcvPart1 (l : Link) (addr : Byte) (ps : List Byte) (s : State) : Host.Outcome State Fault Refusal :=
  .next (s.command l addr ps specSetOcv fun t => t.serveOcvPart1 ps)

/-! ### SET-MAINS (R4, R7, R179) -/

def specSetMains : CommandSpec := ⟨0x25, .bOnly, .always, 5⟩

/-- The style that a parameter byte gives (R179). -/
def styleOf (b : Byte) : Style := if b = 0 then .edge else .level

def State.serveSetMains (s : State) (ps : List Byte) : Taken :=
  match ps with
  | [st, a, b, c, d] =>
    let tq := tqOf (le16 a b)
    let tr := clamp 10 600 (le16 c d)
    let t := (s.takeMains (styleOf st) tq tr).finish
    t.answer (.taken (st.toNat ≤ 1 && tq = le16 a b && tr = le16 c d))
      (u8 (styleOf st).code ++ u16 tq ++ u16 tr ++ u8 t.mode.code ++ u32 t.mains.count)
  | _ => s.refuse .badLength

/-- SET_MAINS (R4, R7). -/
def execSetMains (l : Link) (addr : Byte) (ps : List Byte) (s : State) : Host.Outcome State Fault Refusal :=
  .next (s.command l addr ps specSetMains fun t => t.serveSetMains ps)

/-! ### SET-RING (R144, R179) -/

def specSetRing : CommandSpec := ⟨0x26, .bOnly, .always, 1⟩

/-- The ring mode that a parameter byte gives (R144). -/
def ringModeOf (b : Byte) : RingMode := if b = 0 then .wrap else .hold

/-- The ring takes a mode (R144): the sweep of a change into HOLD, and the refusal mark. -/
def State.setRingMode (s : State) (m : RingMode) : State :=
  if s.settings.ringMode = m then s else ((s.modSettings fun x => { x with ringMode := m }).holdSweep).judgeRefusal

def State.serveSetRing (s : State) (ps : List Byte) : Taken :=
  match ps with
  | [b] =>
    let t := if s.settings.ringMode = ringModeOf b then s else (s.setRingMode (ringModeOf b)).finish
    t.answer (.taken (b.toNat ≤ 1)) (u8 (ringModeOf b).code ++ mark t.ring.refusal)
  | _ => s.refuse .badLength

/-- SET_RING (R144). -/
def execSetRing (l : Link) (addr : Byte) (ps : List Byte) (s : State) : Host.Outcome State Fault Refusal :=
  .next (s.command l addr ps specSetRing fun t => t.serveSetRing ps)

/-! ### SET-TEST (R122, R179) -/

def specSetTest : CommandSpec := ⟨0x28, .oOnly, .always, 12⟩

/-- V_fail as taken with a V_good as taken (R122). -/
def vFailOf (vGood v : Nat) : Nat := min (clamp 5000 16000 v) vGood

/-- A changed survey delay is judged at once, and a raised limit leads to a start walk (R122). -/
def State.setTest (s : State) (dwell vGood vFail sag limit : Nat) (on : Bool) (delay : Nat) : State :=
  ((s.modSettings fun x =>
    { x with dwell := dwell, vGood := vGood, vFail := vFail, sagMax := sag, testLimit := limit, surveyOn := on,
             surveyDelay := delay }).judgeSurvey).finish

def State.serveSetTest (s : State) (ps : List Byte) : Taken :=
  match ps with
  | [d0, d1, g0, g1, f0, f1, s0, s1, lim, en, y0, y1] =>
    let dwell := clamp 30 900 (le16 d0 d1)
    let vGood := clamp 5000 16000 (le16 g0 g1)
    let vFail := vFailOf vGood (le16 f0 f1)
    let sag := clamp 0 5000 (le16 s0 s1)
    let limit := clamp 1 8 lim.toNat
    let delay := clamp 0 3600 (le16 y0 y1)
    (s.setTest dwell vGood vFail sag limit (en ≠ 0) delay).answer
      (.taken (dwell = le16 d0 d1 && vGood = le16 g0 g1 && vFail = le16 f0 f1 && sag = le16 s0 s1 &&
        limit = lim.toNat && en.toNat ≤ 1 && delay = le16 y0 y1))
      (u16 dwell ++ u16 vGood ++ u16 vFail ++ u16 sag ++ u8 limit ++ mark (en ≠ 0) ++ u16 delay)
  | _ => s.refuse .badLength

/-- SET_TEST (R122). -/
def execSetTest (l : Link) (addr : Byte) (ps : List Byte) (s : State) : Host.Outcome State Fault Refusal :=
  .next (s.command l addr ps specSetTest fun t => t.serveSetTest ps)

/-! ### SET-WAKE (R110, R179) -/

def specSetWake : CommandSpec := ⟨0x29, .oOnly, .always, 3⟩

def State.serveSetWake (s : State) (ps : List Byte) : Taken :=
  match ps with
  | [n, a, b] =>
    let attempts := clamp 1 8 n.toNat
    let timeout := clamp 30 600 (le16 a b)
    (s.modSettings fun x => { x with wakeAttempts := attempts, wakeTimeout := timeout }).answer
      (.taken (attempts = n.toNat && timeout = le16 a b)) (u8 attempts ++ u16 timeout)
  | _ => s.refuse .badLength

/-- SET_WAKE (R110). -/
def execSetWake (l : Link) (addr : Byte) (ps : List Byte) (s : State) : Host.Outcome State Fault Refusal :=
  .next (s.command l addr ps specSetWake fun t => t.serveSetWake ps)

end Sys2Proof.Machine
end

