-- ==== Sys2Proof/Machine/Housekeeping.lean ====
section
/-! DEFINITION. SAVE-SETTINGS, the settings image and its loading (chapter 11), and RESTART (R17, R186). -/

namespace Sys2Proof.Machine

open Sys2Proof

/-! ### The image (R187 to R189) -/

/-- A copy of every value of the image as it stands now (R187, R188). -/
def State.imageNow (s : State) : ImageData :=
  { settings := s.settings, ports := Vector.ofFn fun p => (s.port p).prov, oLink := s.oLink.cfg, bLink := s.bLink.cfg }

/-- A write that is cut off leaves the image incomplete (R188). -/
def Store.cutOff (t : Store) : Store :=
  match t.write with
  | some _ => { t with image := .incomplete, write := none }
  | none => t

/-- The provisioning of a port as numbers. -/
def Provision.values (v : Provision) : List Nat := [v.enabled.toNat, v.grade.val, v.rep.count, v.dt, v.df]

/-- The settings of a link as numbers. -/
def LinkSettings.values (c : LinkSettings) : List Nat :=
  [c.mask.toNat, c.width, match c.polarity with
    | .activeLow => 0
    | .activeHigh => 1]

/-- The settings in use as numbers. -/
def Settings.values (st : Settings) : List Nat :=
  [st.tHold, st.margin, st.pCeil, st.gCap.val, st.dwell, st.vGood, st.vFail, st.sagMax, st.testLimit, st.surveyOn.toNat,
      st.surveyDelay, st.wakeAttempts, st.wakeTimeout, st.cap, st.vCut, st.rB] ++
    (st.ocv.toList.flatMap fun x => [x.v, x.s]) ++
    [match st.style with
      | .edge => 0
      | .level => 1, st.tq, st.tr, match st.ringMode with
      | .wrap => 0
      | .hold => 1]

/-- Every value of an image (R187). -/
def ImageData.values (d : ImageData) : List Nat :=
  d.settings.values ++ d.ports.toList.flatMap Provision.values ++ d.oLink.values ++ d.bLink.values

/-- The CRC-16 of an image's values (R187; log entry 33). -/
def ImageData.check (d : ImageData) : BitVec 16 := Config.imageCrc d.values

/-- The content of an image that has been written and whose CRC-16 matches (R187, R189). -/
def Image.passed : Image → Option ImageData
  | .written d crc => if crc = d.check then some d else none
  | .blank | .incomplete => none

/-- The values that a load gives (R189). -/
def Store.loaded (t : Store) : ImageData := t.image.passed.getD defaultImage

/-- The source of the values that a load gives (R189). -/
def Store.loadSource (t : Store) : SettingsSource := if t.image.passed.isSome then .image else .defaults

/-- SETTINGS_DEFAULTED is raised by a load of defaults (R189). -/
def State.tellDefaults (s : State) : State :=
  match s.store.source with
  | .defaults => s.notifyBoth .settingsDefaulted
  | .image => s

/-! ### SAVE-SETTINGS (R186, R188) -/

def specSaveSettings : CommandSpec := ⟨0x50, .either, .always, 0⟩

/-- The other link's write is in progress (R188). -/
def State.otherWrites (s : State) (l : Link) : Bool :=
  match s.store.write with
  | some w => w.link ≠ l
  | none => false

/-- The write begins with a copy of every value; the reply follows its end (R188). -/
def State.serveSaveSettings (s : State) (l : Link) : Taken :=
  if s.otherWrites l then s.refuse .busyStore
  else (s.modStore fun t => { t with write := some { link := l, copy := s.imageNow } }, none)

/-- SAVE_SETTINGS (R188). -/
def execSaveSettings (l : Link) (addr : Byte) (ps : List Byte) (s : State) : Host.Outcome State Fault Refusal :=
  .next (s.command l addr ps specSaveSettings fun t => t.serveSaveSettings l)

/-- The write ends: the image is whole with its CRC-16, and the reply is formed (R164, R187, R188). The time from the end of a
write to its reply is free (log entry 19). -/
def State.endWrite (s : State) : State :=
  match s.store.write with
  | none => s
  | some w =>
    ((s.modStore fun t => { t with image := .written w.copy w.copy.check, write := none }).fly w.link specSaveSettings.code
      (some ⟨.ok, []⟩)).modLink w.link fun c =>
        { c with sendFrom := some (s.now + Config.replyWait (linkNumber w.link) s.now) }

/-- SETTINGS_WRITE_END (R188). -/
def execSettingsWriteEnd (s : State) : Host.Outcome State Fault Refusal :=
  .next (if s.isRunning then s.endWrite else s)

/-! ### RESTART (R17, R186) -/

def specRestart : CommandSpec := ⟨0x51, .either, .always, 0⟩

/-- A link context at the start of a RESTART (R168). The command in flight stays, and so does the framer. -/
def LinkContext.restarted (c : LinkContext) (cfg : LinkSettings) : LinkContext :=
  { c with portCursor := 0, notices := 0, cfg := cfg, frameErrors := 0, overruns := 0, pulseEnd := none }

/-- The cursor, the follow flag and the missed-record count after a reset (R145). -/
def LinkContext.rewound (c : LinkContext) (records : List TestRecord) (follow : Bool) : LinkContext :=
  { c with cursor := cursorAt records 0, follow := follow, missed := 0 }

/-- Both links' cursors after a reset (R145): the follow flag defaults to on for the O-link and off for the B-link. -/
def State.rewind (s : State) : State :=
  { s with oLink := s.oLink.rewound s.ring.records true, bLink := s.bLink.rewound s.ring.records false }

/-- What a RESTART ends (R85, R109, R137, R152, R178): the link contexts are set afresh, the queue and the lanes emptied and
the flag detectors disarmed, the wakes and releases ended, every test aborted with its record, the slots freed, the staging
record and the scan dropped. -/
def State.restartClears (s : State) (d : ImageData) : State :=
  let s₁ := { s with oLink := s.oLink.restarted d.oLink, bLink := s.bLink.restarted d.bLink }
  let s₂ := (s₁.modLsu fun _ => emptyLsu).mapPorts fun _ r => { r with lineErr := 0 }
  let s₃ := (s₂.endWakes.endReleases).abortTests .abortedRestart
  let s₄ := (s₃.modTests fun t => { t with queue := [] }).dropScan
  { s₄ with slots := Vector.replicate 12 Slot.free, staging := none }

/-- The reload of a RESTART (R35, R83, R189): the settings, the account clamped, the provisioning port by port, the
trickle limits, and SETTINGS_DEFAULTED. -/
def State.restartReload (s : State) (d : ImageData) : State :=
  let s₁ := (s.modSettings fun _ => d.settings).modAccount fun a => a.clampTo d.settings.cap d.settings.rB
  let s₂ := (s₁.modStore fun t => { t with source := t.loadSource }).tellDefaults
  (allPorts.foldl (fun s p => s.reloadPort p d.ports[p]) s₂).computeLimits

/-- A port after the reload of a RESTART (R53, R109): its held mark clear, and settled in FULL. -/
def PortRecord.restarted (r : PortRecord) : PortRecord :=
  { r with held := false, settle := if r.feed = .full then .settled else r.settle }

/-- The mode after a RESTART (R17), with the releases that it queues anew and the pass that it runs. The mode before is
that before the reload, and a mains loss in RELEASING and the RESTART share one pass (log entry 9). -/
def State.restartMode (s : State) : State :=
  match s.mode, s.mains.sample with
  | .releasing, false => s.resumePorts.transitionPass (PassKind.resume.bit ||| PassKind.restart.bit)
  | .releasing, true => s.abandonPass.startReleases.checkReleased
  | _, _ =>
    let t := s.requalify
    if t.mode.runsPasses then t.transitionPass PassKind.restart.bit else t.abandonPass

/-- The steps of a RESTART (R17, R186). The ports in FULL are settled before the pass that the RESTART runs, so one that this
pass places in FULL runs its timer (R109; log entry 37). -/
def State.restart (s : State) : State :=
  let d := s.store.loaded
  let s₁ := (s.restartClears d).restartReload d
  let s₂ := (s₁.rewind.holdSweep.judgeRefusal).mapPorts fun _ r => r.restarted
  ({ s₂ with lastReset := .restart }.restartMode).finish

def State.serveRestart (s : State) (l : Link) : Taken :=
  if s.otherWrites l then s.refuse .busyStore else s.restart.answer .ok []

/-- RESTART (R17, R186). -/
def execRestart (l : Link) (addr : Byte) (ps : List Byte) (s : State) : Host.Outcome State Fault Refusal :=
  .next (s.command l addr ps specRestart fun t => t.serveRestart l)

end Sys2Proof.Machine
end

