-- ==== Sys2Proof/Machine/NoticeCommands.lean ====
section
/-! DEFINITION. The commands of notices, attention outputs and counters (section 10.8). -/

namespace Sys2Proof.Machine

open Sys2Proof

def specReadNotices : CommandSpec := ⟨0x48, .either, .always, 0⟩

/-- The link's notice set is reported and emptied (R169). -/
def State.serveReadNotices (s : State) (l : Link) : Taken :=
  (s.modLink l fun c => { c with notices := 0 }).answer .ok (u16 (s.link l).notices.toNat)

/-- READ_NOTICES (R169, R185). -/
def execReadNotices (l : Link) (addr : Byte) (ps : List Byte) (s : State) : Host.Outcome State Fault Refusal :=
  .next (s.command l addr ps specReadNotices fun t => t.serveReadNotices l)

def specSetNoticeMask : CommandSpec := ⟨0x49, .either, .always, 2⟩

/-- The link's notice mask takes a value; bits 14 and 15 are ignored (R170). A pulse that runs goes on to its end, under a
mask with no kinds too (log entry 41). -/
def State.serveSetNoticeMask (s : State) (l : Link) (ps : List Byte) : Taken :=
  match ps with
  | [a, b] =>
    let m : BitVec 14 := BitVec.ofNat 14 (le16 a b)
    (s.modLink l fun c => { c with cfg := { c.cfg with mask := m } }).answer .ok
      (u16 m.toNat ++ u16 (s.link l).notices.toNat)
  | _ => s.refuse .badLength

/-- SET_NOTICE_MASK (R170, R185). -/
def execSetNoticeMask (l : Link) (addr : Byte) (ps : List Byte) (s : State) : Host.Outcome State Fault Refusal :=
  .next (s.command l addr ps specSetNoticeMask fun t => t.serveSetNoticeMask l ps)

def specSetAttn : CommandSpec := ⟨0x4A, .either, .always, 2⟩

/-- The polarity that a parameter byte gives (R172). -/
def polarityOf (b : Byte) : Polarity := if b = 0 then .activeLow else .activeHigh

/-- The link's output takes a width and a polarity; level style ends a running pulse (R172). -/
def LinkContext.setAttn (c : LinkContext) (width : Nat) (p : Polarity) : LinkContext :=
  { c with
    cfg := { c.cfg with width := width, polarity := p }
    pulseEnd := if width = 0 then none else c.pulseEnd }

def State.serveSetAttn (s : State) (l : Link) (ps : List Byte) : Taken :=
  match ps with
  | [w, p] =>
    (s.modLink l fun c => c.setAttn w.toNat (polarityOf p)).answer (.taken (p.toNat ≤ 1))
      (u8 w.toNat ++ u8 (polarityOf p).code)
  | _ => s.refuse .badLength

/-- SET_ATTN (R172, R185). -/
def execSetAttn (l : Link) (addr : Byte) (ps : List Byte) (s : State) : Host.Outcome State Fault Refusal :=
  .next (s.command l addr ps specSetAttn fun t => t.serveSetAttn l ps)

def specReadCounters : CommandSpec := ⟨0x4B, .either, .always, 0⟩

/-- The link's three counts are reported and set to 0 (R168). -/
def State.serveReadCounters (s : State) (l : Link) : Taken :=
  let c := s.link l
  (s.modLink l fun c => { c with frameErrors := 0, overruns := 0, missed := 0 }).answer .ok
    (u8 c.frameErrors ++ u8 c.overruns ++ u8 c.missed)

/-- READ_COUNTERS (R168, R185). -/
def execReadCounters (l : Link) (addr : Byte) (ps : List Byte) (s : State) : Host.Outcome State Fault Refusal :=
  .next (s.command l addr ps specReadCounters fun t => t.serveReadCounters l)

end Sys2Proof.Machine
end

