-- ==== Sys2Proof/Machine/PortCommands.lean ====
section
/-! DEFINITION. The commands of ports and terminals (section 10.2): PORT-SET to TEST-ABORT. -/

namespace Sys2Proof.Machine

open Sys2Proof

/-- A command whose only parameter is a port number: one above 31 is refused (R162). -/
def State.forPort (s : State) (b : Byte) (serve : Port → Taken) : Taken :=
  match portOf b with
  | some p => serve p
  | none => s.refuse .badParam

/-! ### PORT-SET (R80, R174) -/

def specPortSet : CommandSpec := ⟨0x10, .oOnly, .always, 4⟩

/-- The port takes the three values of a PORT-SET (R80). -/
def State.portSet (s : State) (p : Port) (enabled : Bool) (g : Fin 4) (n : Repeat) : State :=
  let t := ((s.setEnabled p enabled).setGrade p g).setRepeat p n
  if (s.port p).prov.enabled = enabled then t.flushPass else t.finish

def State.servePortSet (s : State) (ps : List Byte) : Taken :=
  match ps with
  | [b, en, g, r] =>
    s.forPort b fun p =>
      let t := s.portSet p (en ≠ 0) (gradeOfByte g) (repeatOf r.toNat)
      t.answer (.taken (en.toNat ≤ 1 && g.toNat ≤ 3 && (repeatOf r.toNat).count = r.toNat))
        (u8 p.val ++ mark (en ≠ 0) ++ u8 (gradeOfByte g).val ++ u8 (repeatOf r.toNat).count ++ u8 (t.port p).feed.code)
  | _ => s.refuse .badLength

/-- PORT_SET (R80 to R82). -/
def execPortSet (l : Link) (addr : Byte) (ps : List Byte) (s : State) : Host.Outcome State Fault Refusal :=
  .next (s.command l addr ps specPortSet fun t => t.servePortSet ps)

/-! ### PORT-DRAW (R79, R174) -/

def specPortDraw : CommandSpec := ⟨0x11, .oOnly, .always, 5⟩

def State.servePortDraw (s : State) (ps : List Byte) : Taken :=
  match ps with
  | [b, t0, t1, f0, f1] =>
    s.forPort b fun p =>
      let d := drawsOf (le16 t0 t1) (le16 f0 f1)
      (s.setDraws p d.1 d.2).flushPass.answer (.taken (d.1 = le16 t0 t1 && d.2 = le16 f0 f1))
        (u8 p.val ++ u16 d.1 ++ u16 d.2)
  | _ => s.refuse .badLength

/-- PORT_DRAW (R79). -/
def execPortDraw (l : Link) (addr : Byte) (ps : List Byte) (s : State) : Host.Outcome State Fault Refusal :=
  .next (s.command l addr ps specPortDraw fun t => t.servePortDraw ps)

/-! ### PORT-CLEAR (R73, R174) -/

def specPortClear : CommandSpec := ⟨0x12, .oOnly, .always, 1⟩

/-- The port's faults are cleared (R73). A change of its feed state requests a pass of kind FEED, that of a LOCKED_OUT port
to OFF too (R40; log entry 34). -/
def State.portClear (s : State) (p : Port) : State :=
  let r := s.port p
  let s₁ := s.modPort p fun r => { r with faultCount := 0, faultCause := none }
  if (r.feed = .lockedOut ∨ r.feed = .fault) ∧ r.prov.enabled = true ∧ s.mode.runsPasses = true then
    ((s₁.setFeed p .shed).modPort p fun r => { r with pollMark := true }).requestPass .feed
  else if r.feed = .lockedOut then (s₁.setFeed p .off).requestPass .feed
  else s₁

def State.servePortClear (s : State) (ps : List Byte) : Taken :=
  match ps with
  | [b] =>
    s.forPort b fun p =>
      let t := (s.portClear p).finish
      t.answer .ok (u8 p.val ++ u8 (t.port p).feed.code ++ u8 (t.port p).faultCount)
  | _ => s.refuse .badLength

/-- PORT_CLEAR (R73). -/
def execPortClear (l : Link) (addr : Byte) (ps : List Byte) (s : State) : Host.Outcome State Fault Refusal :=
  .next (s.command l addr ps specPortClear fun t => t.servePortClear ps)

/-! ### LINE-RESTORE (R107, R174) -/

def specLineRestore : CommandSpec := ⟨0x13, .oOnly, .always, 1⟩

/-- A LINE-RESTORE of this port requests a POLL (R107). -/
def State.restorePolls (s : State) (p : Port) : Bool :=
  (s.port p).lineState = .muted && s.mode.runsPasses && (s.port p).feed.signallable

/-- The line error count is cleared, and the terminal of a muted line that can answer is asked for its state (R107). -/
def State.lineRestore (s : State) (p : Port) : State :=
  if s.restorePolls p then (s.clearLine p).request p .poll .auto else s.clearLine p

/-- The code of what became of the POLL: NONE, ADDED, MERGED or DROPPED (R174). -/
def State.restoreFate (s : State) (p : Port) : Nat :=
  if s.restorePolls p then
    match s.requestFate p .poll .auto with
    | .notTaken => 0
    | .added => 1
    | .merged => 2
    | .full => 3
  else 0

def State.serveLineRestore (s : State) (ps : List Byte) : Taken :=
  match ps with
  | [b] =>
    s.forPort b fun p =>
      let t := (s.lineRestore p).finish
      t.answer .ok (u8 p.val ++ u8 (t.port p).lineState.code ++ u8 (s.restoreFate p))
  | _ => s.refuse .badLength

/-- LINE_RESTORE (R107). -/
def execLineRestore (l : Link) (addr : Byte) (ps : List Byte) (s : State) : Host.Outcome State Fault Refusal :=
  .next (s.command l addr ps specLineRestore fun t => t.serveLineRestore ps)

/-! ### WAKE (R111, R175) -/

def specWake : CommandSpec := ⟨0x14, .oOnly, .outageOnly, 1⟩

/-- A WAKE for one port (R111). -/
def State.commandWake (s : State) (p : Port) : State :=
  if s.wakeCase p = .nothing then s else (s.takeWake p .wake).finish

def State.serveWake (s : State) (ps : List Byte) : Taken :=
  match ps with
  | [b] => s.forPort b fun p => (s.commandWake p).answer .ok (u8 p.val ++ u8 (s.wakeCase p).code)
  | _ => s.refuse .badLength

/-- WAKE (R111). -/
def execWake (l : Link) (addr : Byte) (ps : List Byte) (s : State) : Host.Outcome State Fault Refusal :=
  .next (s.command l addr ps specWake fun t => t.serveWake ps)

/-! ### POLL (R96, R175) -/

def specPoll : CommandSpec := ⟨0x15, .oOnly, .outageRestoring, 2⟩

/-- The request kind of a POLL (R175). -/
def pollKind (b : Byte) : Option RequestKind :=
  if b = 0 then some .poll else if b = 1 then some .batteryQuery else if b = 2 then some .drawQuery else none

/-- The request of a POLL, refused at a full queue (R96, R175). -/
def State.poll (s : State) (p : Port) (k : RequestKind) (kindByte : Byte) : Taken :=
  match s.requestFate p k .oLink with
  | .full => s.refuse .full
  | .notTaken => s.refuse .refusedMode
  | .added =>
    let t := (s.request p k .oLink).finish
    t.answer .ok (u8 p.val ++ [kindByte] ++ u8 0 ++ u8 t.lsu.queue.length)
  | .merged => s.answer .ok (u8 p.val ++ [kindByte] ++ u8 1 ++ u8 s.lsu.queue.length)

def State.servePoll (s : State) (ps : List Byte) : Taken :=
  match ps with
  | [b, k] =>
    s.forPort b fun p =>
      match pollKind k with
      | some kind => s.poll p kind k
      | none => s.refuse .badParam
  | _ => s.refuse .badLength

/-- POLL (R96). -/
def execPoll (l : Link) (addr : Byte) (ps : List Byte) (s : State) : Host.Outcome State Fault Refusal :=
  .next (s.command l addr ps specPoll fun t => t.servePoll ps)

/-! ### TEST-REQUEST (R123, R176) -/

def specTestRequest : CommandSpec := ⟨0x16, .oOnly, .outageOnly, 1⟩

/-- What the Test Engine does with a TEST-REQUEST (R176). -/
inductive TestDid where
  | nothing
  | merged
  | queued
  | started
deriving DecidableEq, Repr

/-- The code of what the Test Engine did (R176). -/
def TestDid.code : TestDid → Nat
  | .nothing => 0
  | .merged => 1
  | .queued => 2
  | .started => 3

/-- The Test Engine takes a TEST-REQUEST (R123), with its start walk. -/
def State.testRequest (s : State) (p : Port) : State × TestDid :=
  if (s.port p).prov.enabled = false then (s, .nothing)
  else if (s.testOf p).isSome || s.inTestQueue p then (s, .merged)
  else
    let t := (s.enqueueTest p .oLink).finish
    (t, if t.inTestQueue p then .queued else .started)

def State.serveTestRequest (s : State) (ps : List Byte) : Taken :=
  match ps with
  | [b] =>
    s.forPort b fun p =>
      let t := (s.testRequest p).1
      t.answer .ok (u8 p.val ++ u8 (s.testRequest p).2.code ++ u8 t.tests.queue.length ++ u8 t.tests.contexts.length)
  | _ => s.refuse .badLength

/-- TEST_REQUEST (R123). -/
def execTestRequest (l : Link) (addr : Byte) (ps : List Byte) (s : State) : Host.Outcome State Fault Refusal :=
  .next (s.command l addr ps specTestRequest fun t => t.serveTestRequest ps)

/-! ### TEST-ABORT (R136, R176) -/

def specTestAbort : CommandSpec := ⟨0x17, .oOnly, .outageRestoring, 1⟩

/-- The Test Engine takes a TEST-ABORT (R136), with the code of what it found: ABORTED, DEQUEUED or NONE (R176). -/
def State.testAbort (s : State) (p : Port) : State × Nat :=
  if (s.testOf p).isSome then ((s.abortTest p .abortedMaster).finish, 0)
  else if s.inTestQueue p then (s.dequeueTest p, 1)
  else (s, 2)

def State.serveTestAbort (s : State) (ps : List Byte) : Taken :=
  match ps with
  | [b] => s.forPort b fun p => (s.testAbort p).1.answer .ok (u8 p.val ++ u8 (s.testAbort p).2)
  | _ => s.refuse .badLength

/-- TEST_ABORT (R136). -/
def execTestAbort (l : Link) (addr : Byte) (ps : List Byte) (s : State) : Host.Outcome State Fault Refusal :=
  .next (s.command l addr ps specTestAbort fun t => t.serveTestAbort ps)

end Sys2Proof.Machine
end

