-- ==== Sys2Proof/Machine/ReadCommands.lean ====
section
/-! DEFINITION. The reads (section 10.6): READ-STATUS, READ-MEASURE, READ-BUDGET, READ-PORT and READ-PORT-NEXT. -/

namespace Sys2Proof.Machine

open Sys2Proof

/-- How many of a list satisfy a test, as a count of ports. -/
def State.countPort (s : State) (f : PortRecord → Bool) : Nat := countPorts fun p => f (s.port p)

/-- The port's wake is in this stage. -/
def PortRecord.wakeIn (r : PortRecord) (g : WakeStage) : Bool :=
  match r.wake with
  | some w => w.stage = g
  | none => false

/-! ### READ-STATUS (R180) -/

def specReadStatus : CommandSpec := ⟨0x30, .either, .always, 1⟩

/-- The MODE part (R180). -/
def State.statusMode (s : State) : List Byte :=
  u8 s.mode.code ++ u16 s.mains.outageNumber.toNat ++ u32 s.time.clock ++ mark s.mains.sample ++
    u8 s.settings.style.code ++ u8 s.mains.qual.code ++ mark s.qualHeld ++ u32 s.mains.count ++ u8 s.bank.cutoffRun ++
    u8 s.straps.val ++ u8 s.lastReset.code ++ u8 s.store.source.code

/-- The WORK part (R108, R109, R121, R180). -/
def State.statusWork (s : State) : List Byte :=
  u8 s.lsu.queue.length ++ u8 (allLanes.countP fun i => (s.lane i).isSome) ++
    u8 (s.countPort fun r => r.wakeIn .parked) ++ u8 (s.countPort fun r => r.wakeIn .settling) ++
    u8 (s.countPort fun r => r.wakeIn .signalling) ++ u8 (s.countPort fun r => r.release) ++
    u8 s.tests.queue.length ++ u8 s.tests.contexts.length ++ u8 s.tests.survey.code

/-- The RING part (R141, R180). -/
def State.statusRing (s : State) : List Byte :=
  u8 s.ring.records.length ++ opt16 (s.ring.records.head?.map fun r => r.seq.toNat) ++
    opt16 (s.ring.records.getLast?.map fun r => r.seq.toNat) ++ u16 s.ring.nextSeq.toNat ++
    u8 s.settings.ringMode.code ++ mark s.ring.refusal

def State.serveReadStatus (s : State) (ps : List Byte) : Taken :=
  match ps with
  | [part] =>
    if part = 0 then s.answer .ok s.statusMode
    else if part = 1 then s.answer .ok s.statusWork
    else if part = 2 then s.answer .ok s.statusRing
    else s.refuse .badParam
  | _ => s.refuse .badLength

/-- READ_STATUS (R180). -/
def execReadStatus (l : Link) (addr : Byte) (ps : List Byte) (s : State) : Host.Outcome State Fault Refusal :=
  .next (s.command l addr ps specReadStatus fun t => t.serveReadStatus ps)

/-! ### READ-MEASURE (R21, R181) -/

def specReadMeasure : CommandSpec := ⟨0x31, .either, .always, 1⟩

/-- Part 0: the bank, the feed bus and the powers (R181). -/
def State.measureBank (s : State) : List Byte :=
  mark s.bank.valid ++ u16 s.bank.scanCount.toNat ++ u16 s.bank.last.vBank ++ s32 s.bank.last.iBank ++
    u16 s.bank.last.vFeed ++ u32 s.bank.last.bankPower ++ u32 s.bank.last.sumPower

/-- The four ports of part `k` (R181). -/
def partPorts (k : Nat) : List Port := (allPorts.drop (4 * (k - 1))).take 4

/-- Part `k`, 1 to 8: the currents of four ports, and then their powers (R181; log entry 12). -/
def State.measurePorts (s : State) (k : Nat) : List Byte :=
  mark s.bank.valid ++ u16 s.bank.scanCount.toNat ++ (partPorts k).flatMap (fun p => u16 s.bank.last.iPort[p]) ++
    (partPorts k).flatMap (fun p => u16 (s.bank.last.portPower p))

def State.serveReadMeasure (s : State) (ps : List Byte) : Taken :=
  match ps with
  | [part] =>
    if part = 0 then s.answer .ok s.measureBank
    else if part.toNat ≤ 8 then s.answer .ok (s.measurePorts part.toNat)
    else s.refuse .badParam
  | _ => s.refuse .badLength

/-- READ_MEASURE (R181). -/
def execReadMeasure (l : Link) (addr : Byte) (ps : List Byte) (s : State) : Host.Outcome State Fault Refusal :=
  .next (s.command l addr ps specReadMeasure fun t => t.serveReadMeasure ps)

/-! ### READ-BUDGET (R36, R56, R182) -/

def specReadBudget : CommandSpec := ⟨0x32, .either, .always, 1⟩

/-- The ACCOUNT part: the pass count that every part carries (R182), and then the fields of R36 (log entry 12). -/
def State.budgetAccount (s : State) : List Byte :=
  u16 s.budget.result.passCount.toNat ++ u32 s.settings.cap ++ u32 s.account.eBank ++ u32 s.settings.rB ++
    u32 s.account.rLeft ++ u32 s.account.bAvg ++ u16 s.account.resBank ++ u16 s.account.resBldg ++
    mark s.account.breach ++ u8 s.bank.cutoffRun

/-- The ALLOWANCE part (R56). -/
def State.budgetAllowance (s : State) : List Byte :=
  let r := s.budget.result
  u16 r.passCount.toNat ++ u8 r.causes.toNat ++ u32 r.time ++ u32 r.remS ++ u32 r.pool ++ u64 r.overhang ++ s32 r.raw ++
    u16 r.pAvail ++ u16 s.settings.tHold ++ u16 s.settings.margin ++ u16 s.settings.pCeil ++ u16 Config.pHw ++
    u8 s.settings.gCap.val ++ u16 r.baseline ++ u16 r.total ++ u16 (r.pAvail - r.total)

/-- An ORDER part: sixteen places from place `start` + 1, 255 for a place past the end (R56, R182). -/
def State.budgetOrder (s : State) (start : Nat) : List Byte :=
  let r := s.budget.result
  u16 r.passCount.toNat ++ u8 r.order.length ++
    (List.range 16).flatMap fun i => u8 (((r.order[start + i]?).map fun p => p.val).getD 255)

/-- The CLASSES part (R56, R182). -/
def State.budgetClasses (s : State) : List Byte :=
  let r := s.budget.result
  u16 r.passCount.toNat ++ allPorts.flatMap (fun p => u8 r.classes[p].code) ++ allPorts.flatMap (fun p => mark r.held[p]) ++
    u32 r.capped.toNat ++ u8 r.nShed ++ u8 r.nTrickle ++ u8 r.nFull ++ u8 r.nHeld ++ u8 r.nCapped

def State.serveReadBudget (s : State) (ps : List Byte) : Taken :=
  match ps with
  | [part] =>
    if part = 0 then s.answer .ok s.budgetAccount
    else if part = 1 then s.answer .ok s.budgetAllowance
    else if part = 2 then s.answer .ok (s.budgetOrder 0)
    else if part = 3 then s.answer .ok (s.budgetOrder 16)
    else if part = 4 then s.answer .ok s.budgetClasses
    else s.refuse .badParam
  | _ => s.refuse .badLength

/-- READ_BUDGET (R182). -/
def execReadBudget (l : Link) (addr : Byte) (ps : List Byte) (s : State) : Host.Outcome State Fault Refusal :=
  .next (s.command l addr ps specReadBudget fun t => t.serveReadBudget ps)

/-! ### READ-PORT and READ-PORT-NEXT (R84, R182) -/

def specReadPort : CommandSpec := ⟨0x33, .either, .always, 1⟩

def specReadPortNext : CommandSpec := ⟨0x34, .either, .always, 0⟩

/-- The code of a port's demand: FULL, or TRICKLE (R48). -/
def State.demandCode (s : State) (p : Port) : Nat := if s.wantsFull p then 0 else 1

/-- The fields of a port in the order of R84. -/
def State.portFields (s : State) (p : Port) : List Byte :=
  let r := s.port p
  u8 p.val ++ mark r.prov.enabled ++ u8 r.prov.grade.val ++ u8 r.prov.rep.count ++ u16 r.prov.dt ++ u16 r.prov.df ++
    u8 r.feed.code ++ mark r.held ++ mark r.pollMark ++ u8 (s.demandCode p) ++ u8 r.terminal.code ++ u8 r.battery.code ++
    opt16 r.lastMv ++ opt16 (r.lastSeq.map fun q => q.toNat) ++ u8 r.lineErr ++ u8 r.lineState.code ++
    opt8 (r.faultCause.map FaultCause.code) ++ u8 r.faultCount ++ opt16 (s.retryLeft p) ++ u8 r.overdrawRun ++
    u8 r.noLoadRun ++ u16 r.trickleLimit ++ u16 s.bank.last.iPort[p] ++ u16 (s.bank.last.portPower p) ++
    u16 s.bank.scanCount.toNat ++ u8 s.budget.result.classes[p].code ++ u8 (s.budget.result.place p)

def State.serveReadPort (s : State) (ps : List Byte) : Taken :=
  match ps with
  | [b] =>
    match portOf b with
    | some p => s.answer .ok (s.portFields p)
    | none => s.refuse .badParam
  | _ => s.refuse .badLength

/-- READ_PORT (R84). -/
def execReadPort (l : Link) (addr : Byte) (ps : List Byte) (s : State) : Host.Outcome State Fault Refusal :=
  .next (s.command l addr ps specReadPort fun t => t.serveReadPort ps)

/-- The port at the link's cursor is reported, and the cursor goes on by one, from P31 to P0 (R168, R182). -/
def State.serveReadPortNext (s : State) (l : Link) : Taken :=
  (s.modLink l fun c => { c with portCursor := c.portCursor + 1 }).answer .ok (s.portFields (s.link l).portCursor)

/-- READ_PORT_NEXT (R84, R168). -/
def execReadPortNext (l : Link) (addr : Byte) (ps : List Byte) (s : State) : Host.Outcome State Fault Refusal :=
  .next (s.command l addr ps specReadPortNext fun t => t.serveReadPortNext l)

end Sys2Proof.Machine
end

