-- ==== Sys2Proof/Machine/Resets.lean ====
section
/-! DEFINITION. The power-on and hard resets, and the loss of supply (R15, R16, R188). -/

namespace Sys2Proof.Machine

open Sys2Proof

/-- A port's record after a power-on reset (R59). -/
def bootPort (v : Provision) : PortRecord := { resetPort with prov := v, trickleLimit := v.dt * 10000 / 48000 }

/-- A link context after a power-on reset, before any notice (R168). -/
def bootLink (cfg : LinkSettings) (follow : Bool) : LinkContext := { resetLink follow with notices := 0, cfg := cfg }

/-- The Mains Qualifier after a power-on or hard reset (R15): an absent sample starts an outage qualification. -/
def bootMains (style : Style) (mainsOk : Bool) (outageNumber : BitVec 16) : Mains :=
  { mode := if mainsOk then .standby else .qualifying, sample := mainsOk, qual := if mainsOk then .none else .outage,
    count := if mainsOk then 0 else style.fromZero, outageNumber := outageNumber }

/-- The end of a power-on reset (R15): every block at its initial value, the settings loaded, the mode from MAINS_OK. The
commands that wait stay in the queue. -/
def State.powerOn (s : State) (mainsOk : Bool) (straps : Fin 32) : State :=
  let store := s.store.cutOff
  let d := store.loaded
  State.tellDefaults
    { State.reset with
      straps := straps
      mains := bootMains d.settings.style mainsOk 0
      ports := Vector.ofFn fun p => bootPort d.ports[p]
      oLink := bootLink d.oLink true
      bLink := bootLink d.bLink false
      settings := d.settings
      store := { store with source := store.loadSource }
      pending := s.pending }

/-- POWER_ON_RESET (R15). -/
def execPowerOnReset (mainsOk : Bool) (straps : Fin 32) (s : State) : Host.Outcome State Fault Refusal :=
  .next (s.powerOn mainsOk straps)

/-- A port while RESET is low (R16): its stage is off. -/
def PortRecord.resetLow (r : PortRecord) : PortRecord :=
  { r with
    feed := if r.feed = .lockedOut then .lockedOut else .off
    retryAt := none
    trickleSince := none
    settle := .idle }

/-- A link context while RESET is low (R16): it receives nothing, and a reply being sent is cut off. -/
def LinkContext.resetLow (c : LinkContext) : LinkContext := { c with inFlight := none, pulseEnd := none, sendFrom := none }

/-- RESET is driven low (R16): the stages turn off, and transactions, the flag detectors, the scan, tests, the qualification
and a settings write are cut off. -/
def State.holdReset (s : State) : State :=
  { ((((s.mapPorts fun _ r => r.resetLow).modLsu fun u => { emptyLsu with queue := u.queue }).dropScan.modTests
        fun t => { t with contexts := [] }).modMains fun m => { m with qual := .none, count := 0 }).modStore Store.cutOff with
    phase := .resetHeld
    oLink := s.oLink.resetLow
    bLink := s.bLink.resetLow }

/-- HARD_RESET (R16). -/
def execHardReset (s : State) : Host.Outcome State Fault Refusal := .next (if s.isRunning then s.holdReset else s)

/-- What a port keeps through a hard reset (R16, R59). -/
def PortRecord.keep (r old : PortRecord) : PortRecord :=
  { r with
    feed := if old.feed = .lockedOut then .lockedOut else .off
    battery := old.battery
    lastMv := old.lastMv
    lastSeq := old.lastSeq
    faultCause := if old.feed = .lockedOut then old.faultCause else none }

/-- RESET returns high (R16): the part starts as after power-on but for what it keeps. -/
def State.endHardReset (s : State) (mainsOk : Bool) (straps : Fin 32) : State :=
  let t := s.powerOn mainsOk straps
  let t₁ := (t.mapPorts fun p r => r.keep (s.port p)).modMains fun m => { m with outageNumber := s.mains.outageNumber }
  let t₂ := t₁.modRing fun g => { g with records := s.ring.records, nextSeq := s.ring.nextSeq }
  { t₂ with lastReset := .hard }.rewind.judgeRefusal

/-- HARD_RESET_END (R16). -/
def execHardResetEnd (mainsOk : Bool) (straps : Fin 32) (s : State) : Host.Outcome State Fault Refusal :=
  .next (if s.phase = .resetHeld then s.endHardReset mainsOk straps else s)

/-- LOSS_OF_SUPPLY (R188): the part stops, and a settings write is cut off. -/
def execLossOfSupply (s : State) : Host.Outcome State Fault Refusal :=
  .next { s with phase := .off, store := s.store.cutOff }

end Sys2Proof.Machine
end

