-- ==== Sys2Proof/Machine/RingCommands.lean ====
section
/-! DEFINITION. The commands of results and slots (section 10.7). -/

namespace Sys2Proof.Machine

open Sys2Proof

/-- What follows a read, a seek or a change of follow flag: in HOLD a sweep (R148), and the start walk that the end of a
refusal leads to (R149). -/
def State.afterRead (s : State) : State := if s.settings.ringMode = .hold then s.holdSweep.finish else s

/-! ### READ-RESULT (R150, R183) -/

def specReadResult : CommandSpec := ⟨0x38, .either, .always, 0⟩

/-- The record that a link's cursor designates, with its place (R145). -/
def State.cursorRecord (s : State) (l : Link) : Option (TestRecord × Nat) :=
  let i := cursorIndex s.ring.records (s.link l).cursor
  (s.ring.records[i]?).map fun r => (r, i)

/-- READ-RESULT for one link (R150): the record, the number after it and the missed-record count; the cursor goes on, and
in HOLD a sweep follows (R148). -/
def State.serveReadResult (s : State) (l : Link) : Taken :=
  match s.cursorRecord l with
  | some (r, i) =>
    ((s.modLink l fun c => { c with cursor := cursorAt s.ring.records (i + 1) }).afterRead).answer .ok
      (r.bytes ++ u8 (s.ring.records.length - i - 1) ++ u8 (s.link l).missed)
  | none => s.afterRead.answer .empty (u8 (s.link l).missed)

/-- READ_RESULT (R150). -/
def execReadResult (l : Link) (addr : Byte) (ps : List Byte) (s : State) : Host.Outcome State Fault Refusal :=
  .next (s.command l addr ps specReadResult fun t => t.serveReadResult l)

/-! ### SEEK-RESULT and SET-FOLLOW (R151, R183) -/

def specSeekResult : CommandSpec := ⟨0x39, .either, .always, 1⟩

/-- The link's cursor goes to the oldest record or to "end", and in HOLD a sweep follows (R148, R151). -/
def State.seek (s : State) (l : Link) (toEnd : Bool) : State :=
  (s.modLink l fun c => { c with cursor := if toEnd then none else cursorAt s.ring.records 0 }).afterRead

/-- The number of records from a link's cursor to the newest (R151). -/
def State.recordsLeft (s : State) (l : Link) : Nat :=
  s.ring.records.length - cursorIndex s.ring.records (s.link l).cursor

def State.serveSeekResult (s : State) (l : Link) (ps : List Byte) : Taken :=
  match ps with
  | [b] =>
    if b.toNat ≤ 1 then (s.seek l (b = 1)).answer .ok (u8 ((s.seek l (b = 1)).recordsLeft l)) else s.refuse .badParam
  | _ => s.refuse .badLength

/-- SEEK_RESULT (R151). -/
def execSeekResult (l : Link) (addr : Byte) (ps : List Byte) (s : State) : Host.Outcome State Fault Refusal :=
  .next (s.command l addr ps specSeekResult fun t => t.serveSeekResult l ps)

def specSetFollow : CommandSpec := ⟨0x3A, .either, .always, 1⟩

/-- The link's follow flag takes a value; a change in HOLD leads to a sweep (R148, R151). -/
def State.setFollow (s : State) (l : Link) (on : Bool) : State :=
  if (s.link l).follow = on then s else (s.modLink l fun c => { c with follow := on }).afterRead

def State.serveSetFollow (s : State) (l : Link) (ps : List Byte) : Taken :=
  match ps with
  | [b] =>
    let t := s.setFollow l (b ≠ 0)
    t.answer (.taken (b.toNat ≤ 1)) (mark (b ≠ 0) ++ u8 t.ring.records.length)
  | _ => s.refuse .badLength

/-- SET_FOLLOW (R151). -/
def execSetFollow (l : Link) (addr : Byte) (ps : List Byte) (s : State) : Host.Outcome State Fault Refusal :=
  .next (s.command l addr ps specSetFollow fun t => t.serveSetFollow l ps)

/-! ### The slots (R152 to R155, R184) -/

/-- A slot command's slot: a number above 11 is refused (R162). -/
def State.forSlot (s : State) (b : Byte) (serve : SlotId → Taken) : Taken :=
  match slotOf b with
  | some i => serve i
  | none => s.refuse .badParam

def specSlotConfigure : CommandSpec := ⟨0x40, .either, .always, 7⟩

/-- The slot mode that a parameter byte gives (R153). -/
def slotModeOf (b : Byte) : SlotMode := if b = 0 then .hold else .replace

/-- The slot belongs to the other link. -/
def State.ownedByOther (s : State) (l : Link) (i : SlotId) : Bool :=
  match (s.slot i).owner with
  | some o => o ≠ l
  | none => false

/-- A slot as SLOT-CONFIGURE leaves it: the sets, the mode and the owner, empty (R153). -/
def configuredSlot (l : Link) (ports : BitVec 32) (kinds : BitVec 4) (m : SlotMode) : Slot :=
  { owner := some l, ports := ports, kinds := kinds, mode := m, overwritten := false, lost := 0, content := none }

def State.serveSlotConfigure (s : State) (l : Link) (ps : List Byte) : Taken :=
  match ps with
  | [b, p0, p1, p2, p3, k, m] =>
    s.forSlot b fun i =>
      if s.ownedByOther l i then s.refuse .owned
      else
        (s.modSlot i fun _ => configuredSlot l (lePorts p0 p1 p2 p3) (k.setWidth 4) (slotModeOf m)).answer
          (.taken (m.toNat ≤ 1))
          (u8 i.val ++ u32 (lePorts p0 p1 p2 p3).toNat ++ u8 (k.setWidth 4).toNat ++ u8 (slotModeOf m).code)
  | _ => s.refuse .badLength

/-- SLOT_CONFIGURE (R153). -/
def execSlotConfigure (l : Link) (addr : Byte) (ps : List Byte) (s : State) : Host.Outcome State Fault Refusal :=
  .next (s.command l addr ps specSlotConfigure fun t => t.serveSlotConfigure l ps)

def specSlotRead : CommandSpec := ⟨0x41, .either, .always, 1⟩

/-- A slot emptied by its owner's read (R155). -/
def Slot.emptied (t : Slot) : Slot := { t with content := none, overwritten := false, lost := 0 }

/-- The fields of a full slot's content, as it stood before any emptying (R184). -/
def Slot.contentBytes (t : Slot) (m : Message) : List Byte :=
  u8 m.port.val ++ u8 m.kind.fieldCode ++ u16 m.value ++ u16 m.outageNumber.toNat ++ u32 m.clock ++ mark t.overwritten ++
    u8 t.lost

def State.serveSlotRead (s : State) (l : Link) (ps : List Byte) : Taken :=
  match ps with
  | [b] =>
    s.forSlot b fun i =>
      let t := s.slot i
      let head := u8 i.val ++ u8 (ownerCode t.owner) ++ u8 t.mode.code
      match t.content with
      | none => s.answer .empty head
      | some m =>
        (if t.owner = some l then s.modSlot i Slot.emptied else s).answer .ok (head ++ t.contentBytes m)
  | _ => s.refuse .badLength

/-- SLOT_READ (R155). -/
def execSlotRead (l : Link) (addr : Byte) (ps : List Byte) (s : State) : Host.Outcome State Fault Refusal :=
  .next (s.command l addr ps specSlotRead fun t => t.serveSlotRead l ps)

def specSlotRelease : CommandSpec := ⟨0x42, .either, .always, 1⟩

def State.serveSlotRelease (s : State) (l : Link) (ps : List Byte) : Taken :=
  match ps with
  | [b] =>
    s.forSlot b fun i =>
      if s.ownedByOther l i then s.refuse .owned
      else
        (if (s.slot i).owner = some l then s.modSlot i fun _ => Slot.free else s).answer .ok
          (u8 i.val ++ u8 (ownerCode none))
  | _ => s.refuse .badLength

/-- SLOT_RELEASE (R154). -/
def execSlotRelease (l : Link) (addr : Byte) (ps : List Byte) (s : State) : Host.Outcome State Fault Refusal :=
  .next (s.command l addr ps specSlotRelease fun t => t.serveSlotRelease l ps)

end Sys2Proof.Machine
end

