-- ==== Sys2Proof/Machine/LinkEvents.lean ====
section
/-! DEFINITION. The events of the Link Interfaces: silence, bad frames, frames that no command takes, the end of a reply,
the end of an ATTN pulse (R157 to R164, R172). -/

namespace Sys2Proof.Machine

open Sys2Proof

/-- More than 5 ms have passed since the last byte: the line is silent. Silence is not measured while the part sends (R157). -/
def State.lineSilence (s : State) (l : Link) : State :=
  if (s.link l).silent || s.sending l then s
  else (s.advanceTo ((s.link l).lastByte + 6)).modLink l fun c => { c with silent := true }

/-- LINE_SILENCE (R157). -/
def execLineSilence (link : Link) (s : State) : Host.Outcome State Fault Refusal :=
  .next (if s.isRunning then s.lineSilence link else s)

/-- A bad frame that began after silence is discarded and counted (R158). A frame cut off by silence leaves the line
silent; the rest of any other is ignored until the next silence. -/
def State.badFrame (s : State) (l : Link) (cause : BadFrameCause) : State :=
  if s.sending l then s
  else if (s.link l).silent = false then s.heard l
  else if cause = .cutOff then s.frameError l
  else (s.framed l).frameError l

/-- BAD_FRAME (R158). -/
def execBadFrame (link : Link) (cause : BadFrameCause) (s : State) : Host.Outcome State Fault Refusal :=
  .next (if s.isRunning then s.badFrame link cause else s)

/-- The address rules do not accept the frame (R159, R160). -/
def Handling.discards : Handling → Bool
  | .counted | .ignored => true
  | .accepted | .broadcast => false

/-- FRAME_ADDRESS_DISCARD (R159, R160), of a good frame that the address rules do not accept. -/
def execFrameAddressDiscard (link : Link) (addr code : Byte) (params : List Byte) (s : State) :
    Host.Outcome State Fault Refusal :=
  .next
    (if Frame.fits ⟨link, addr, code, params⟩ && (s.handling ⟨link, addr, code, params⟩).discards then
      s.receive ⟨link, addr, code, params⟩ (fun t => t) (fun t => t)
    else s)

/-- FRAME_OVERRUN (R161), of a frame that the link would accept while its command is in flight. -/
def execFrameOverrun (link : Link) (addr code : Byte) (params : List Byte) (s : State) :
    Host.Outcome State Fault Refusal :=
  .next
    (if (s.link link).inFlight.isSome && Frame.fits ⟨link, addr, code, params⟩ &&
        !(s.handling ⟨link, addr, code, params⟩).discards then
      s.receive ⟨link, addr, code, params⟩ (fun t => t) (fun t => t)
    else s)

/-- UNKNOWN_CMD (R162): a code that is no command's is refused with the status UNKNOWN_CMD. -/
def execUnknownCmd (link : Link) (addr code : Byte) (params : List Byte) (s : State) : Host.Outcome State Fault Refusal :=
  .next
    (if code ∈ commandCodes then s
    else s.receive ⟨link, addr, code, params⟩ (fun t => t.fly link code (some ⟨.unknownCmd, []⟩)) (fun t => t))

/-- The last byte of a reply has been sent: nothing is in flight, and the framer begins to measure silence (R157, R161). -/
def State.replySent (s : State) (l : Link) : State :=
  match (s.link l).sentAt with
  | some t => ((s.advanceTo t).modLink l fun c => { c with inFlight := none, sendFrom := none }).framed l
  | none => s

/-- REPLY_SENT (R164). -/
def execReplySent (link : Link) (s : State) : Host.Outcome State Fault Refusal :=
  .next (if s.isRunning then s.replySent link else s)

/-- The running ATTN pulse ends (R172). -/
def State.attnPulseEnd (s : State) (l : Link) : State :=
  match (s.link l).pulseEnd with
  | some t => (s.advanceTo t).modLink l fun c => { c with pulseEnd := none }
  | none => s

/-- ATTN_PULSE_END (R172). -/
def execAttnPulseEnd (link : Link) (s : State) : Host.Outcome State Fault Refusal :=
  .next (if s.isRunning then s.attnPulseEnd link else s)

/-- A byte that the framer ignores (R157): the first after silence if it is not the sync byte, and any before the next
silence. -/
def State.ignoreByte (s : State) (l : Link) (b : Byte) : State :=
  if s.sending l then s
  else if (s.link l).silent then if b = 0xA5 then s else s.framed l
  else s.heard l

/-- BYTE_IGNORED_UNTIL_SILENCE (R157). -/
def execByteIgnoredUntilSilence (link : Link) (byte : Byte) (s : State) : Host.Outcome State Fault Refusal :=
  .next (if s.isRunning then s.ignoreByte link byte else s)

end Sys2Proof.Machine
end

