-- ==== Sys2Proof/Machine/MainsEvents.lean ====
section
/-! DEFINITION. The events of the Mains Qualifier (R5, R6): changes and samples of MAINS_OK, and the expiry of its timers.
An event that does not arise in the present state changes nothing (log entry 8). -/

namespace Sys2Proof.Machine

open Sys2Proof

/-- The 1 ms sample of MAINS_OK is `present` (R3). -/
def State.setSample (s : State) (present : Bool) : State := s.modMains fun m => { m with sample := present }

/-- MAINS_OK changes: in EDGE style the table of R5 acts, and in LEVEL style the sample alone is kept. -/
def State.mainsOkChange (s : State) (present : Bool) : State :=
  if s.mains.sample = present then s
  else if s.settings.style = .edge then ((s.setSample present).edgeTable present).finish
  else s.setSample present

/-- MAINS_OK_CHANGE (R5). -/
def execMainsOkChange (present : Bool) (s : State) : Host.Outcome State Fault Refusal :=
  .next (if s.isRunning then s.mainsOkChange present else s)

/-- The tick count of the next 100 ms sample: the first whole multiple of 100 that has not been used and has not passed in
EDGE style, so that a sample over which a row has carried the time stays due (R3; log entry 2). -/
def State.nextSample (s : State) : Nat := (s.time.lastLevel / 100 + 1) * 100

/-- The next 100 ms sample is taken in LEVEL style (R6). -/
def State.levelSample (s : State) (present : Bool) : State :=
  if s.settings.style = .level then
    let s₁ := (s.advanceTo s.nextSample).modTime fun t => { t with lastLevel := s.nextSample }
    ((s₁.setSample present).levelTable present).finish
  else s

/-- LEVEL_SAMPLE (R6). -/
def execLevelSample (present : Bool) (s : State) : Host.Outcome State Fault Refusal :=
  .next (if s.isRunning then s.levelSample present else s)

/-- An EDGE timer for this qualification runs. -/
def State.timing (s : State) (q : Qual) : Bool := s.settings.style = .edge && s.mains.qual = q

/-- The time runs on until the EDGE timer in progress has expired (R5). -/
def State.runTimer (s : State) : State := s.elapse (s.target - s.mains.count)

/-- The outage timer reaches T_q (R5, R8). -/
def State.outageTimer (s : State) : State :=
  if s.timing .outage && s.mode = .qualifying then s.runTimer.qualifyOutage.finish else s

/-- OUTAGE_TIMER_EXPIRY (R5). -/
def execOutageTimerExpiry (s : State) : Host.Outcome State Fault Refusal :=
  .next (if s.isRunning then s.outageTimer else s)

/-- The restore timer reaches T_r (R5). -/
def State.restoreTimer (s : State) : State := if s.timing .restore then s.runTimer.restoreQualified.finish else s

/-- RESTORE_TIMER_EXPIRY (R5). -/
def execRestoreTimerExpiry (s : State) : Host.Outcome State Fault Refusal :=
  .next (if s.isRunning then s.restoreTimer else s)

end Sys2Proof.Machine
end

