-- ==== Sys2Proof/Machine/PortEvents.lean ====
section
/-! DEFINITION. The events of a port: the trip (R69), the end of a retry wait (R72), the settle timer (R113), the expiry
of a wake (R114) and of a dwell (R129). An event that does not arise in the present state changes nothing (log entry 8);
one that is timed carries the clock to its time (log entry 2). -/

namespace Sys2Proof.Machine

open Sys2Proof

/-- The port's trip fires on this current and these readings of its pair (R69, R71). -/
def State.trip (s : State) (p : Port) (milliamps : Nat) (readings : List PairReading) : State :=
  if s.tripFires p milliamps readings then (s.faultPort p .short).finish else s

/-- TRIP (R69). -/
def execTrip (port : Port) (milliamps : Nat) (readings : List PairReading) (s : State) :
    Host.Outcome State Fault Refusal :=
  .next (if s.isRunning then s.trip port milliamps readings else s)

/-- The end of a FAULT port's retry wait (R72). -/
def State.endRetry (s : State) (p : Port) : State :=
  match (s.port p).retryAt with
  | some t =>
    if (s.port p).feed = .fault then (((s.advanceTo t).setFeed p .shed).requestPass .feed).finish else s
  | none => s

/-- RETRY_WAIT_END (R72). -/
def execRetryWaitEnd (port : Port) (s : State) : Host.Outcome State Fault Refusal :=
  .next (if s.isRunning then s.endRetry port else s)

/-- The port's settle timer runs out in FULL (R113). -/
def State.settleTimer (s : State) (p : Port) : State :=
  match (s.port p).settle with
  | .running t => if (s.port p).feed = .full then ((s.advanceTo t).settlePort p).finish else s
  | .idle | .settled => s

/-- SETTLE_TIMER_EXPIRY (R113). -/
def execSettleTimerExpiry (port : Port) (s : State) : Host.Outcome State Fault Refusal :=
  .next (if s.isRunning then s.settleTimer port else s)

/-- The port's WAKE entry is in a lane (R114). -/
def State.wakeInLane (s : State) (p : Port) : Bool :=
  match s.entry? p .wake .other with
  | some e => e.inLane
  | none => false

/-- The port's wake reaches its expiry time with no lane on it (R114). -/
def State.wakeExpiry (s : State) (p : Port) : State :=
  match (s.port p).wake with
  | some w => if s.wakeInLane p then s else ((s.advanceTo w.expiry).expireWake p).finish
  | none => s

/-- WAKE_EXPIRY (R114). -/
def execWakeExpiry (port : Port) (s : State) : Host.Outcome State Fault Refusal :=
  .next (if s.isRunning then s.wakeExpiry port else s)

/-- The dwell of the port's test ends (R129): POST-QUERY, with its BATTERY-QUERY. -/
def State.endDwell (s : State) (p : Port) : State :=
  match s.testOf p with
  | some c =>
    match c.stage, c.dwellEnd with
    | .dwell, some t =>
      (((s.advanceTo t).modTest p fun c => { c with stage := .postQuery }).requestTest p .batteryQuery).finish
    | _, _ => s
  | none => s

/-- DWELL_EXPIRY (R129). -/
def execDwellExpiry (port : Port) (s : State) : Host.Outcome State Fault Refusal :=
  .next (if s.isRunning then s.endDwell port else s)

end Sys2Proof.Machine
end

