-- ==== Sys2Proof/Machine/ScanEvents.lean ====
section
/-! DEFINITION. The second tick, the end of a scan with all that follows from it, and the end of a pass (R2, R18 to R25,
R52, R70, R74, R75). -/

namespace Sys2Proof.Machine

open Sys2Proof

/-! ### SECOND_TICK (R2, R18, R19) -/

/-- The outage clock runs in this mode (R2). -/
def Mode.clockRuns : Mode → Bool
  | .outage | .restoring | .releasing | .depleted => true
  | .standby | .qualifying => false

/-- The outage clock counts a second (R2). -/
def State.countSecond (s : State) : State :=
  if s.mode.clockRuns then s.modTime fun t => { t with clock := min (t.clock + 1) Config.clockMax } else s

/-- A scan starts, with its account mark (R18, R19). -/
def State.startScan (s : State) : State :=
  s.modBank fun b => { b with scanPos := some 1, accountMark := s.mode.isOutageMode }

/-- The ms until the next second tick, 0 when it is due: the 1 s ticks run on when the tick count has saturated (R1). -/
def State.untilSecond (s : State) : Nat := 1000 - s.time.sinceSecond

/-- The next second tick comes (R1, R2, R19, R124). -/
def State.secondTick (s : State) : State :=
  let s₁ := (s.elapse s.untilSecond).modTime fun t => { t with sinceSecond := t.sinceSecond - 1000 }
  (s₁.countSecond.startScan.judgeSurvey).finish

/-- SECOND_TICK (R2). -/
def execSecondTick (s : State) : Host.Outcome State Fault Refusal := .next (if s.isRunning then s.secondTick else s)

/-! ### The Port Controller's judgement of a completed set (R70, R74, R75) -/

/-- A port's power exceeds one and a half times its full draw (R70). -/
def overdrawn (power df : Nat) : Bool := 3 * df < 2 * power

/-- The overdraw judgement of one port (R70). -/
def State.judgeOverdraw (s : State) (m : MeasSet) (p : Port) : State :=
  let r := s.port p
  if r.feed = .full ∧ overdrawn (m.portPower p) r.prov.df = true then
    if 5 ≤ r.overdrawRun + 1 then s.faultPort p .overdraw
    else s.modPort p fun r => { r with overdrawRun := r.overdrawRun + 1 }
  else s.modPort p fun r => { r with overdrawRun := 0 }

/-- The recovery of an ABSENT port (R75). -/
def State.recoverPort (s : State) (p : Port) : State :=
  (((s.setTerminal p .unknown).request p .poll .auto).autoWake p).requestPass .demand

/-- The no-load judgement of one port (R74). A count that stands at 10 makes a state that has been written since ABSENT again
at the next scan below the limit (log entry 31). -/
def State.judgeNoLoad (s : State) (m : MeasSet) (p : Port) : State :=
  let r := s.port p
  if r.feed.fed then
    if m.iPort[p] < Config.noLoadLimit then
      let s₁ := s.modPort p fun r => { r with noLoadRun := min (r.noLoadRun + 1) 10 }
      if 10 ≤ r.noLoadRun + 1 then s₁.setTerminal p .absent else s₁
    else
      let s₁ := s.modPort p fun r => { r with noLoadRun := 0 }
      if r.terminal = .absent then s₁.recoverPort p else s₁
  else s.modPort p fun r => { r with noLoadRun := 0 }

/-- One port judged by a completed set: overdraw first, then no-load (log entry 7). -/
def State.judgePort (m : MeasSet) (s : State) (p : Port) : State := (s.judgeOverdraw m p).judgeNoLoad m p

/-- The Port Controller takes a completed set (R23, R60): the trickle limits, and the ports in port order. -/
def State.judgeSet (s : State) (m : MeasSet) : State := allPorts.foldl (State.judgePort m) s.computeLimits

/-! ### SCAN_COMPLETE (R19, R23) -/

/-- A debited scan (R23): the cutoff test, and then the debit with the request for the per-scan pass, which begins on the
account as the debit left it (log entry 6). -/
def State.takeDebit (s : State) (m : MeasSet) : State :=
  let t := s.cutoffTest m.vBank
  if 3 ≤ t.bank.cutoffRun then t.enterDepleted else ((t.debitScan m).requestPass .scan).flushPass

/-- Channel 35 has been converted (R19, R23, R8). The Port Controller judges the set before a held outage starts on it (log
entry 30). -/
def State.scanComplete (s : State) (m : MeasSet) : State :=
  let s₁ := s.replaceSet m
  let s₂ := if s.debited then s₁.takeDebit m else s₁
  let s₃ := s₂.judgeSet m
  (if s.qualHeld then s₃.outageStart else s₃).finish

/-- SCAN_COMPLETE (R19), of a scan in progress. -/
def execScanComplete (readings : Readings) (s : State) : Host.Outcome State Fault Refusal :=
  .next (if s.isRunning && s.bank.scanPos.isSome then s.scanComplete (convertAll readings) else s)

/-! ### PASS_COMPLETE (R52) -/

/-- PASS_COMPLETE (R52), of a pass in progress. -/
def execPassComplete (s : State) : Host.Outcome State Fault Refusal :=
  .next (if s.isRunning && s.budget.work.isSome then s.completePass.finish else s)

end Sys2Proof.Machine
end

