-- ==== Sys2Proof/Machine/SignalEvents.lean ====
section
/-! DEFINITION. The events of the Line Signalling Unit: the not-before time and the expiry of an entry (R98, R100), the end
of a lane's bursts (R101), the four ends of listening (R92), and a terminal flag (R93). -/

namespace Sys2Proof.Machine

open Sys2Proof

/-! ### Queue entries -/

/-- An entry that waits in the queue reaches its not-before time, and the arbiter acts (R100). -/
def State.notBefore (s : State) (p : Port) (k : RequestKind) (c : OriginClass) : State :=
  match s.entry? p k c with
  | some e => if e.inLane then s else (s.advanceTo e.notBefore).arbitrate
  | none => s

/-- NOT_BEFORE_REACHED (R100). -/
def execNotBeforeReached (port : Port) (kind : RequestKind) (cls : OriginClass) (s : State) :
    Host.Outcome State Fault Refusal :=
  .next (if s.isRunning then s.notBefore port kind cls else s)

/-- Entries of this origin expire in the queue (R98). -/
def Origin.expires : Origin → Bool
  | .oLink | .auto | .release => true
  | .wake | .test => false

/-- An entry that waits in the queue reaches the age of 30 s (R98). -/
def State.entryExpiry (s : State) (p : Port) (k : RequestKind) (c : OriginClass) : State :=
  match s.entry? p k c with
  | some e =>
    if e.inLane || !e.origin.expires then s
    else ((s.advanceTo (e.enqueued + Config.entryLife)).expireEntry e).finish
  | none => s

/-- ENTRY_EXPIRY (R98). -/
def execEntryExpiry (port : Port) (kind : RequestKind) (cls : OriginClass) (s : State) :
    Host.Outcome State Fault Refusal :=
  .next (if s.isRunning then s.entryExpiry port kind cls else s)

/-! ### Lanes -/

/-- The tick count at which a lane's bursts end (R87). -/
def Transaction.burstsEnd (t : Transaction) : Nat := t.since + burstsMs t.kind t.rEff

/-- The transaction when its window opens (R101): the capture is empty, and the decoder waits for a start pulse. -/
def Transaction.listening (t : Transaction) : Transaction :=
  { t with stage := .listening, since := t.burstsEnd, decoder := .waitStart, samples := [], closed := false }

/-- A lane's last burst ends (R101). -/
def State.endBursts (s : State) (i : LaneId) : State :=
  match s.lane i with
  | some t => if t.stage = .bursting then (s.advanceTo t.burstsEnd).setLane i (some t.listening) else s
  | none => s

/-- BURSTS_END (R101). -/
def execBurstsEnd (lane : LaneId) (s : State) : Host.Outcome State Fault Refusal :=
  .next (if s.isRunning then s.endBursts lane else s)

/-- What the port's comparator makes of the samples (R88). -/
def levels (samples : List PairSample) : List Bool := samples.map PairSample.high

/-- The samples that the lane has taken when `samples` have followed those it holds. -/
def Transaction.taken (t : Transaction) (samples : List Bool) : List Bool := t.samples ++ samples

/-- The end of a lane's listening with an outcome, at the time of the last of `total` samples (R92, R102). -/
def State.endListening (s : State) (i : LaneId) (t : Transaction) (total : Nat) (o : LaneOutcome) : State :=
  ((s.advanceTo (t.since + total / 4)).endTransaction i t o).finish

/-- The outcome of the twenty bits of a reply: valid, or CHECK (R89). -/
def bitsOutcome (bits : List Bool) : LaneOutcome :=
  match judgeReply bits with
  | some r => .replied r
  | none => .failed

/-- The outcome of a verdict, none while the decoder goes on (R92). -/
def Verdict.outcome : Verdict → Option LaneOutcome
  | .open_ _ _ => none
  | .reply bits => some (bitsOutcome bits)
  | .symbol => some .failed
  | .flag => some .flagged

/-- A lane's decoder finds a reply, a failure or a flag that satisfies `is` (R92). -/
def State.listenFor (s : State) (i : LaneId) (samples : List Bool) (is : Verdict → Bool) : State :=
  match s.lane i with
  | none => s
  | some t =>
    if t.stage = .listening then
      match listen (t.taken samples) with
      | none => s
      | some v =>
        match v.outcome with
        | some o => if is v then s.endListening i t (t.taken samples).length o else s
        | none => s
    else s

/-- The decoder has taken the twentieth bit. -/
def Verdict.isReply : Verdict → Bool
  | .reply _ => true
  | .open_ _ _ | .symbol | .flag => false

/-- A run has failed with SYMBOL. -/
def Verdict.isSymbol : Verdict → Bool
  | .symbol => true
  | .open_ _ _ | .reply _ | .flag => false

/-- A flag-width run has been judged. -/
def Verdict.isFlag : Verdict → Bool
  | .flag => true
  | .open_ _ _ | .reply _ | .symbol => false

/-- REPLY_DECODED (R89). -/
def execReplyDecoded (lane : LaneId) (samples : List PairSample) (s : State) : Host.Outcome State Fault Refusal :=
  .next (if s.isRunning then s.listenFor lane (levels samples) Verdict.isReply else s)

/-- REPLY_SYMBOL_FAILURE (R91). -/
def execReplySymbolFailure (lane : LaneId) (samples : List PairSample) (s : State) : Host.Outcome State Fault Refusal :=
  .next (if s.isRunning then s.listenFor lane (levels samples) Verdict.isSymbol else s)

/-- FLAG_IN_WINDOW (R94). -/
def execFlagInWindow (lane : LaneId) (samples : List PairSample) (s : State) : Host.Outcome State Fault Refusal :=
  .next (if s.isRunning then s.listenFor lane (levels samples) Verdict.isFlag else s)

/-- The samples of a whole window: those given, and the level low for what is not given of it (log entry 14). -/
def wholeWindow (samples : List Bool) : List Bool :=
  (samples ++ List.replicate (windowSamples - samples.length) false).take windowSamples

/-- The transaction goes on past its window, with the capture and the decoder as they stand (R92). -/
def Transaction.pastWindow (t : Transaction) (samples : List Bool) (d : DecodeState) : Transaction :=
  { t with samples := samples, decoder := d.state, closed := true }

/-- The samples on which the close of a lane's window is judged (R92): those of the window, and for a lane that has followed
a high sample past it, the one that decides that sample too (log entry 35). -/
def Transaction.closing (t : Transaction) (samples : List Bool) : List Bool :=
  if t.closed then (t.taken samples).take (windowSamples + 1) else wholeWindow (t.taken samples)

/-- A lane's window closes (R92): NO_REPLY if the decoder waits with the level low, and otherwise it follows the reply. -/
def State.closeWindow (s : State) (i : LaneId) (samples : List Bool) : State :=
  match s.lane i with
  | none => s
  | some t =>
    if t.stage = .listening then
      match decodeSamples (t.closing samples) with
      | .open_ d high =>
        if (Verdict.open_ d high).waitingLow then s.endListening i t (t.closing samples).length .failed
        else if t.closed then s
        else (s.advanceTo (t.since + Config.replyWindow)).setLane i (some (t.pastWindow (t.closing samples) d))
      | .reply _ | .symbol | .flag => s
    else s

/-- WINDOW_CLOSE (R92). -/
def execWindowClose (lane : LaneId) (samples : List PairSample) (s : State) : Host.Outcome State Fault Refusal :=
  .next (if s.isRunning then s.closeWindow lane (levels samples) else s)

/-! ### Terminal flags -/

/-- An armed flag detector judges a flag at the last of its samples (R93): an AUTO POLL is requested, and the Test Engine is
told. -/
def State.terminalFlag (s : State) (p : Port) (samples : List Bool) : State :=
  match s.flag p with
  | .disarmed => s
  | .armed since taken run =>
    if flagSeen (taken = 0) (run ++ samples) then
      let n := taken + samples.length
      let s₁ := (s.advanceTo (since + n / 4)).setFlag p (.armed since n (runUnderWay (run ++ samples)))
      ((s₁.request p .poll .auto).flagTest p).finish
    else s

/-- TERMINAL_FLAG (R93). -/
def execTerminalFlag (port : Port) (samples : List PairSample) (s : State) : Host.Outcome State Fault Refusal :=
  .next (if s.isRunning then s.terminalFlag port (levels samples) else s)

end Sys2Proof.Machine
end

