-- ==== Sys2Proof/Machine/TimeBase.lean ====
section
/-! DEFINITION. The 1 ms tick (R1): one millisecond passes, and every timed event that is due then takes place. The step
function makes it when no command waits (log entry 1); the order of the events that fall due together is fixed here, with
the second tick before the end of a qualification (R11, section 1.5; log entry 2). -/

namespace Sys2Proof.Machine

open Sys2Proof

/-- An EDGE timer that has run out acts (R5). -/
def State.dueTimer (s : State) : State :=
  if s.settings.style = .edge ∧ s.qualDue = true then s.outageTimer.restoreTimer else s

/-- The 100 ms sample is taken when its tick has come (R6), of several that are due the first. -/
def State.dueSample (s : State) : State :=
  if s.settings.style = .level ∧ s.nextSample ≤ s.now then s.levelSample s.mains.sample else s

/-- The second tick comes (R1). -/
def State.dueSecond (s : State) : State := if 1000 ≤ s.time.sinceSecond then s.secondTick else s

/-- A lane that follows a reply past its window takes the level low where no samples have been given, and ends as its decoder
judges them (R92; log entry 35). -/
def State.followReply (s : State) (i : LaneId) (t : Transaction) : State :=
  let all := t.taken (List.replicate (4 * (s.now - t.since) - t.samples.length) false)
  match (listen all).map Verdict.outcome with
  | none => s.endListening i t all.length .failed
  | some (some o) => s.endListening i t all.length o
  | some none => s

/-- A lane whose bursts have ended listens, and a window of 500 ms closes with the samples taken (R101, R92). Of several
transactions that end at one tick, each is a whole event, after which the arbiter acts (R100; log entry 28). -/
def State.dueLane (s : State) (i : LaneId) : State :=
  match s.lane i with
  | none => s
  | some t =>
    match t.stage with
    | .bursting => if t.burstsEnd ≤ s.now then s.endBursts i else s
    | .listening =>
      if t.closed then s.followReply i t
      else if t.since + Config.replyWindow ≤ s.now then s.closeWindow i [] else s

/-- A retry wait ends (R72); of several that end at one tick, in port order (log entry 40). -/
def State.dueRetry (s : State) (p : Port) : State :=
  match (s.port p).retryAt with
  | some t => if t ≤ s.now then s.endRetry p else s
  | none => s

/-- A settle timer runs out (R113). -/
def State.dueSettle (s : State) (p : Port) : State :=
  match (s.port p).settle with
  | .running t => if t ≤ s.now then s.settleTimer p else s
  | .idle | .settled => s

/-- An entry expires (R98); of several that expire at one tick, in the order of the queue (log entry 40). -/
def State.dueEntry (s : State) (e : Entry) : State :=
  if e.overdue s.now then s.entryExpiry e.port e.kind e.origin.cls else s

/-- A wake expires (R114); of several that expire at one tick, in port order (log entry 40). -/
def State.dueWake (s : State) (p : Port) : State := if s.wakeOverdue p then s.wakeExpiry p else s

/-- A dwell ends (R129). Of several that end at one tick, the lowest port's BATTERY-QUERY is requested first (log entry 40). -/
def State.dueDwell (s : State) (p : Port) : State :=
  match (s.testOf p).bind fun c => c.dwellEnd with
  | some t => if t ≤ s.now then s.endDwell p else s
  | none => s

/-- A running pulse ends (R172). -/
def State.duePulse (s : State) (l : Link) : State :=
  match (s.link l).pulseEnd with
  | some t => if t ≤ s.now then s.attnPulseEnd l else s
  | none => s

/-- The last byte of a reply has been sent (R164). -/
def State.dueReply (s : State) (l : Link) : State :=
  match (s.link l).sentAt with
  | some t => if t ≤ s.now then s.replySent l else s
  | none => s

/-- A line falls silent (R157). -/
def State.dueSilence (s : State) (l : Link) : State :=
  if (s.link l).lastByte + 6 ≤ s.now then s.lineSilence l else s

/-- What falls due on a link: the end of its pulse, the end of its reply, and silence. -/
def State.dueLink (s : State) (l : Link) : State := ((s.duePulse l).dueReply l).dueSilence l

/-- The ports whose settle timers are looked at, the SETTLING wakes in their order first (R113). -/
def State.settleOrder (s : State) : List Port := s.wakes.settling ++ allPorts

/-- One 1 ms tick. The lanes are looked at in lane number order, and the arbiter acts after each transaction that ends, with
the lanes after it still in their transactions (R100; log entry 28). The order of the blocks is that of log entry 2, and the
order of the events of one kind that of log entry 40: by port from P0, but for entries in queue order, SETTLING wakes as R113
gives, and the O-link before the B-link. -/
def State.tick (s : State) : State :=
  let s₁ := (s.elapse 1).dueSecond.dueTimer.dueSample
  let s₂ := allLanes.foldl State.dueLane s₁
  let s₃ := s₂.settleOrder.foldl State.dueSettle (allPorts.foldl State.dueRetry s₂)
  let s₄ := s₃.lsu.queue.foldl State.dueEntry s₃
  let s₅ := allPorts.foldl State.dueDwell (allPorts.foldl State.dueWake s₄)
  ((s₅.dueLink .oLink).dueLink .bLink).finish

end Sys2Proof.Machine
end

