-- ==== Sys2Proof/Machine/Dispatch.lean ====
section
/-! DEFINITION. One arm for each command: a direct call of its meaning. -/

namespace Sys2Proof.Machine

open Sys2Proof

def exec (i : Instr) (s : State) : Host.Outcome State Fault Refusal :=
  match i with
  | .powerOnReset mainsOk straps => Sys2Proof.Machine.execPowerOnReset mainsOk straps s
  | .hardReset => Sys2Proof.Machine.execHardReset s
  | .hardResetEnd mainsOk straps => Sys2Proof.Machine.execHardResetEnd mainsOk straps s
  | .mainsOkChange present => Sys2Proof.Machine.execMainsOkChange present s
  | .levelSample present => Sys2Proof.Machine.execLevelSample present s
  | .outageTimerExpiry => Sys2Proof.Machine.execOutageTimerExpiry s
  | .restoreTimerExpiry => Sys2Proof.Machine.execRestoreTimerExpiry s
  | .secondTick => Sys2Proof.Machine.execSecondTick s
  | .scanComplete readings => Sys2Proof.Machine.execScanComplete readings s
  | .passComplete => Sys2Proof.Machine.execPassComplete s
  | .trip port milliamps readings => Sys2Proof.Machine.execTrip port milliamps readings s
  | .retryWaitEnd port => Sys2Proof.Machine.execRetryWaitEnd port s
  | .notBeforeReached port kind cls => Sys2Proof.Machine.execNotBeforeReached port kind cls s
  | .burstsEnd lane => Sys2Proof.Machine.execBurstsEnd lane s
  | .replyDecoded lane samples => Sys2Proof.Machine.execReplyDecoded lane samples s
  | .replySymbolFailure lane samples => Sys2Proof.Machine.execReplySymbolFailure lane samples s
  | .windowClose lane samples => Sys2Proof.Machine.execWindowClose lane samples s
  | .flagInWindow lane samples => Sys2Proof.Machine.execFlagInWindow lane samples s
  | .terminalFlag port samples => Sys2Proof.Machine.execTerminalFlag port samples s
  | .entryExpiry port kind cls => Sys2Proof.Machine.execEntryExpiry port kind cls s
  | .settleTimerExpiry port => Sys2Proof.Machine.execSettleTimerExpiry port s
  | .wakeExpiry port => Sys2Proof.Machine.execWakeExpiry port s
  | .dwellExpiry port => Sys2Proof.Machine.execDwellExpiry port s
  | .lineSilence link => Sys2Proof.Machine.execLineSilence link s
  | .badFrame link cause => Sys2Proof.Machine.execBadFrame link cause s
  | .frameAddressDiscard link addr code params => Sys2Proof.Machine.execFrameAddressDiscard link addr code params s
  | .frameOverrun link addr code params => Sys2Proof.Machine.execFrameOverrun link addr code params s
  | .unknownCmd link addr code params => Sys2Proof.Machine.execUnknownCmd link addr code params s
  | .replySent link => Sys2Proof.Machine.execReplySent link s
  | .attnPulseEnd link => Sys2Proof.Machine.execAttnPulseEnd link s
  | .settingsWriteEnd => Sys2Proof.Machine.execSettingsWriteEnd s
  | .portSet link addr params => Sys2Proof.Machine.execPortSet link addr params s
  | .portDraw link addr params => Sys2Proof.Machine.execPortDraw link addr params s
  | .portClear link addr params => Sys2Proof.Machine.execPortClear link addr params s
  | .lineRestore link addr params => Sys2Proof.Machine.execLineRestore link addr params s
  | .wake link addr params => Sys2Proof.Machine.execWake link addr params s
  | .poll link addr params => Sys2Proof.Machine.execPoll link addr params s
  | .testRequest link addr params => Sys2Proof.Machine.execTestRequest link addr params s
  | .testAbort link addr params => Sys2Proof.Machine.execTestAbort link addr params s
  | .setHold link addr params => Sys2Proof.Machine.execSetHold link addr params s
  | .setBank link addr params => Sys2Proof.Machine.execSetBank link addr params s
  | .setReserve link addr params => Sys2Proof.Machine.execSetReserve link addr params s
  | .buildingLimit link addr params => Sys2Proof.Machine.execBuildingLimit link addr params s
  | .setOcvPart0 link addr params => Sys2Proof.Machine.execSetOcvPart0 link addr params s
  | .setOcvPart1 link addr params => Sys2Proof.Machine.execSetOcvPart1 link addr params s
  | .setMains link addr params => Sys2Proof.Machine.execSetMains link addr params s
  | .setRing link addr params => Sys2Proof.Machine.execSetRing link addr params s
  | .setTest link addr params => Sys2Proof.Machine.execSetTest link addr params s
  | .setWake link addr params => Sys2Proof.Machine.execSetWake link addr params s
  | .readStatus link addr params => Sys2Proof.Machine.execReadStatus link addr params s
  | .readMeasure link addr params => Sys2Proof.Machine.execReadMeasure link addr params s
  | .readBudget link addr params => Sys2Proof.Machine.execReadBudget link addr params s
  | .readPort link addr params => Sys2Proof.Machine.execReadPort link addr params s
  | .readPortNext link addr params => Sys2Proof.Machine.execReadPortNext link addr params s
  | .readResult link addr params => Sys2Proof.Machine.execReadResult link addr params s
  | .seekResult link addr params => Sys2Proof.Machine.execSeekResult link addr params s
  | .setFollow link addr params => Sys2Proof.Machine.execSetFollow link addr params s
  | .slotConfigure link addr params => Sys2Proof.Machine.execSlotConfigure link addr params s
  | .slotRead link addr params => Sys2Proof.Machine.execSlotRead link addr params s
  | .slotRelease link addr params => Sys2Proof.Machine.execSlotRelease link addr params s
  | .readNotices link addr params => Sys2Proof.Machine.execReadNotices link addr params s
  | .setNoticeMask link addr params => Sys2Proof.Machine.execSetNoticeMask link addr params s
  | .setAttn link addr params => Sys2Proof.Machine.execSetAttn link addr params s
  | .readCounters link addr params => Sys2Proof.Machine.execReadCounters link addr params s
  | .saveSettings link addr params => Sys2Proof.Machine.execSaveSettings link addr params s
  | .restart link addr params => Sys2Proof.Machine.execRestart link addr params s
  | .lossOfSupply => Sys2Proof.Machine.execLossOfSupply s
  | .byteIgnoredUntilSilence link byte => Sys2Proof.Machine.execByteIgnoredUntilSilence link byte s

end Sys2Proof.Machine
end

