-- ==== Sys2Proof/Safety.lean ====
section
/-! DEFINITION. The terms that the statements about the CS3210 use: a link that can take a command, the reply to it, the
service of a request for a pass, the steady part of a state, and the invariants of the machine. -/

namespace Sys2Proof.Machine

open Sys2Proof

/-! ### Links -/

/-- The address byte reaches this part on the link (R159, R160). -/
def State.addressed (s : State) (l : Link) (addr : Byte) : Bool :=
  match l with
  | .oLink => addr = 31 || some addr = s.unitAddress
  | .bLink => some addr = s.unitAddress

/-- The link takes a command frame with this address byte: the part runs, the line is silent, nothing is in flight
(R157, R159 to R161). -/
def State.ready (s : State) (l : Link) (addr : Byte) : Bool :=
  s.isRunning && (s.link l).silent && (s.link l).inFlight.isNone && s.addressed l addr

/-- The link after a frame that ended now: the framer waits for silence (R157). -/
def State.taken (s : State) (l : Link) : State := s.modLink l fun c => { c with silent := false, lastByte := s.now }

/-- The frame of a command has been taken and its reply, with these parameter bytes, is in flight (R161, R164). -/
def State.replied (s : State) (l : Link) (code : Byte) (params : List Byte) : State :=
  (s.taken l).modLink l fun c =>
    { c with
      inFlight := some ⟨code, some (frameBytes s.replyAddress (code ||| 0x80) params)⟩
      sendFrom := some (s.now + 6 + Config.replyWait (linkNumber l) s.now % 5) }

/-- The commands of chapter 10: the code, the links that may send it (R165), the modes in which it is available (R166)
and its parameter count (the tables of sections 10.2 to 10.9). -/
def commandTable : List CommandSpec :=
  [⟨0x10, .oOnly, .always, 4⟩, ⟨0x11, .oOnly, .always, 5⟩, ⟨0x12, .oOnly, .always, 1⟩, ⟨0x13, .oOnly, .always, 1⟩,
    ⟨0x14, .oOnly, .outageOnly, 1⟩, ⟨0x15, .oOnly, .outageRestoring, 2⟩, ⟨0x16, .oOnly, .outageOnly, 1⟩,
    ⟨0x17, .oOnly, .outageRestoring, 1⟩, ⟨0x20, .oOnly, .always, 6⟩, ⟨0x21, .bOnly, .always, 6⟩,
    ⟨0x22, .bOnly, .always, 4⟩, ⟨0x23, .bOnly, .always, 1⟩, ⟨0x24, .bOnly, .always, 21⟩, ⟨0x25, .bOnly, .always, 5⟩,
    ⟨0x26, .bOnly, .always, 1⟩, ⟨0x28, .oOnly, .always, 12⟩, ⟨0x29, .oOnly, .always, 3⟩, ⟨0x30, .either, .always, 1⟩,
    ⟨0x31, .either, .always, 1⟩, ⟨0x32, .either, .always, 1⟩, ⟨0x33, .either, .always, 1⟩, ⟨0x34, .either, .always, 0⟩,
    ⟨0x38, .either, .always, 0⟩, ⟨0x39, .either, .always, 1⟩, ⟨0x3A, .either, .always, 1⟩, ⟨0x40, .either, .always, 7⟩,
    ⟨0x41, .either, .always, 1⟩, ⟨0x42, .either, .always, 1⟩, ⟨0x48, .either, .always, 0⟩, ⟨0x49, .either, .always, 2⟩,
    ⟨0x4A, .either, .always, 2⟩, ⟨0x4B, .either, .always, 0⟩, ⟨0x50, .either, .always, 0⟩, ⟨0x51, .either, .always, 0⟩]

/-! ### Passes -/

/-- The Budget Unit after requests of these kinds (R40, R41): dropped outside OUTAGE and RESTORING, served at once by a
pass that reads the state as it stands, or joined to the next pass. -/
def State.served (s : State) (causes : BitVec 8) : Budget :=
  if s.mode.runsPasses then
    match s.budget.work with
    | none => { s.budget with work := some { input := s.passInput, causes := causes, departed := 0 } }
    | some _ => { s.budget with pendingPass := true, nextCauses := s.budget.nextCauses ||| causes }
  else s.budget

/-- The state with a request of these kinds served, if `due`. -/
def State.withPass (s : State) (causes : BitVec 8) (due : Bool) : State :=
  if due then { s with budget := s.served causes } else s

/-- A request of this kind has been served since `s`: a pass that reads it is in progress, or the next pass has it. -/
def State.asked (t s : State) (kind : BitVec 8) : Prop :=
  match s.budget.work with
  | none => ∃ w, t.budget.work = some w ∧ w.causes &&& kind = kind
  | some _ => t.budget.work.isSome = true ∧ t.budget.pendingPass = true ∧ t.budget.nextCauses &&& kind = kind

/-- A request of this kind has been served in a step from `s` that may have begun a pass before it: the pass begun since has
it, or the next pass has it. -/
def State.askedSince (t s : State) (kind : BitVec 8) : Prop :=
  match s.budget.work with
  | none =>
    ∃ w, t.budget.work = some w ∧
      (w.causes &&& kind = kind ∨ t.budget.pendingPass = true ∧ t.budget.nextCauses &&& kind = kind)
  | some _ => t.budget.work.isSome = true ∧ t.budget.pendingPass = true ∧ t.budget.nextCauses &&& kind = kind

/-! ### The steady part of a state -/

/-- The part of a port's record that only provisioning changes; a DRAW reply changes d_f (R78). -/
def PortRecord.steady (r : PortRecord) : Provision × Nat := ({ r.prov with df := 0 }, r.trickleLimit)

/-- The part of a link context that only frames and commands change. -/
def LinkContext.steady (c : LinkContext) : LinkContext := { c with cursor := none, missed := 0, notices := 0, pulseEnd := none }

/-- The part of the state that the blocks' work on ports, signalling, tests and passes leaves as it is. -/
structure Steady where
  phase : Phase
  straps : Fin 32
  lastReset : ResetKind
  time : TimeBase
  sample : Bool
  outageNumber : BitVec 16
  bank : Bank
  account : Account
  ports : Port → Provision × Nat
  oLink : LinkContext
  bLink : LinkContext
  staging : Option (Vector OcvPoint 5)
  settings : Settings
  store : Store
  pending : List Instr

/-- The steady part of a state. -/
def State.steady (s : State) : Steady :=
  { phase := s.phase, straps := s.straps, lastReset := s.lastReset, time := s.time, sample := s.mains.sample,
    outageNumber := s.mains.outageNumber, bank := { s.bank with accountMark := false, cutoffRun := 0 }, account := s.account,
    ports := fun p => (s.port p).steady, oLink := s.oLink.steady, bLink := s.bLink.steady, staging := s.staging,
    settings := s.settings, store := s.store, pending := s.pending }

/-! ### The Mains Qualifier's tables, written out -/

/-- What the level of MAINS_OK makes of the mode and the qualification at once (R5): `first` is the count of a
qualification that starts. -/
def Mains.atLevel (m : Mains) (present : Bool) (first : Nat) : Mains :=
  match m.mode, present with
  | .standby, false => { m with mode := .qualifying, qual := .outage, count := first }
  | .qualifying, true => { m with mode := .standby, qual := .none, count := 0 }
  | .outage, true => { m with mode := .restoring, qual := .restore, count := first }
  | .restoring, false => { m with mode := .outage, qual := .none, count := 0 }
  | .releasing, false => { m with mode := .outage, qual := .none, count := 0 }
  | .depleted, false => { m with qual := .none, count := 0 }
  | .depleted, true => { m with qual := .restore, count := first }
  | .standby, true | .qualifying, false | .outage, false | .restoring, true | .releasing, true => m

/-- The mode and the qualification set afresh from the current sample (R7, R17). -/
def Mains.afresh (m : Mains) (first : Nat) : Mains :=
  match m.mode, m.sample with
  | .qualifying, false | .restoring, true => { m with count := first, qual := if m.mode = .qualifying then .outage else .restore }
  | _, present => m.atLevel present first

/-- The count of a qualification from zero (R7, R17). -/
def zeroCount (style : Style) : Nat := if style = .edge then 0 else 1

/-- What one 100 ms sample makes of the mode and the qualification (R6), but for the count that reaches its threshold. -/
def Mains.atSample (m : Mains) (present : Bool) : Mains :=
  match m.mode, present with
  | .qualifying, false | .restoring, true => { m with count := min (m.count + 1) 6000 }
  | .qualifying, true =>
    if m.count ≤ 1 then { m with mode := .standby, qual := .none, count := 0 } else { m with count := m.count - 1 }
  | .restoring, false =>
    if m.count ≤ 1 then { m with mode := .outage, qual := .none, count := 0 } else { m with count := m.count - 1 }
  | .depleted, true =>
    if m.qual = .none then { m with qual := .restore, count := 1 } else { m with count := min (m.count + 1) 6000 }
  | .depleted, false => if m.count ≤ 1 then { m with qual := .none, count := 0 } else { m with count := m.count - 1 }
  | .standby, _ | .outage, _ | .releasing, _ => m.atLevel present 1

/-! ### The debit, as the manual's loops (R31, R33) -/

/-- While the residue is at least 3,600 and the quantity above 0, 3,600 is taken from the one and 1 from the other. -/
def drain (residue quantity : Nat) : Nat × Nat :=
  match quantity with
  | 0 => (residue, 0)
  | q + 1 => if 3600 ≤ residue then drain (residue - 3600) q else (residue, q + 1)

/-- The residue is dropped when the quantity is used up. -/
def settled (r : Nat × Nat) : Nat × Nat := if r.2 = 0 then (0, 0) else r

/-! ### Settings in their ranges (section 11.4) -/

/-- Every setting in use is within its range. -/
def Settings.Legal (st : Settings) : Prop :=
  (10 ≤ st.tHold ∧ st.tHold ≤ 1440) ∧ st.margin ≤ 2000 ∧ st.pCeil ≤ 9600 ∧ (30 ≤ st.dwell ∧ st.dwell ≤ 900) ∧
    (5000 ≤ st.vGood ∧ st.vGood ≤ 16000) ∧ (5000 ≤ st.vFail ∧ st.vFail ≤ st.vGood) ∧ st.sagMax ≤ 5000 ∧
    (1 ≤ st.testLimit ∧ st.testLimit ≤ 8) ∧ st.surveyDelay ≤ 3600 ∧ (1 ≤ st.wakeAttempts ∧ st.wakeAttempts ≤ 8) ∧
    (30 ≤ st.wakeTimeout ∧ st.wakeTimeout ≤ 600) ∧ (1000 ≤ st.cap ∧ st.cap ≤ 2000000) ∧
    (36000 ≤ st.vCut ∧ st.vCut ≤ 48000) ∧ st.rB ≤ st.cap ∧ ocvValid st.ocv = true ∧
    (500 ≤ st.tq ∧ st.tq ≤ 10000 ∧ st.tq % 100 = 0) ∧ (10 ≤ st.tr ∧ st.tr ≤ 600)

/-- A port's draws are within their ranges (R58). -/
def Provision.Legal (v : Provision) : Prop := 10 ≤ v.dt ∧ v.dt ≤ v.df ∧ v.df ≤ 2500

/-- A link's ATTN width is within its range (R168). -/
def LinkSettings.Legal (c : LinkSettings) : Prop := c.width ≤ 255

/-- Every value of an image is within its range (R189). -/
def ImageData.Legal (d : ImageData) : Prop :=
  d.settings.Legal ∧ (∀ p : Port, d.ports[p].Legal) ∧ d.oLink.Legal ∧ d.bLink.Legal

/-- An image that passes its check holds legal values. -/
def Image.Legal : Image → Prop
  | .written d crc => crc = d.check → d.Legal
  | .blank | .incomplete => True

/-- Every setting of the machine, in use, in the image and in a write under way, is within its range. -/
def State.SettingsLegal (s : State) : Prop :=
  s.imageNow.Legal ∧ s.store.image.Legal ∧ ∀ w, s.store.write = some w → w.copy.Legal

/-! ### The account (R26) -/

/-- The account's quantities are within the ranges of R26. -/
def State.AccountLegal (s : State) : Prop :=
  s.account.rLeft ≤ s.account.eBank ∧ s.account.eBank ≤ s.settings.cap ∧ s.account.resBank ≤ 3599 ∧
    s.account.resBldg ≤ 3599 ∧ s.account.bAvg ≤ 335299

/-! ### The ring (R143, R145) -/

/-- A cursor stands at "end" or designates a record present in the ring (R145). -/
def cursorStands (records : List TestRecord) (c : Option (BitVec 16)) : Prop :=
  c = none ∨ ∃ r ∈ records, c = some r.seq

/-- At most 64 records, numbered consecutively up to the one before the next number, and both cursors in place. -/
def State.RingLegal (s : State) : Prop :=
  s.ring.records.length ≤ 64 ∧
    (∀ (i : Nat) (h : i < s.ring.records.length),
      s.ring.records[i].seq = s.ring.nextSeq - BitVec.ofNat 16 (s.ring.records.length - i)) ∧
    cursorStands s.ring.records s.oLink.cursor ∧ cursorStands s.ring.records s.bLink.cursor

/-! ### The signalling queue and the lanes (R95, R100) -/

/-- Two entries differ in port, kind or origin class (R95). -/
def Entry.differs (a b : Entry) : Prop := a.port ≠ b.port ∨ a.kind ≠ b.kind ∨ a.origin.cls ≠ b.origin.cls

/-- At most 48 entries, no two alike, and no two lanes in transaction for one port. -/
def State.QueueLegal (s : State) : Prop :=
  s.lsu.queue.length ≤ 48 ∧ s.lsu.queue.Pairwise Entry.differs ∧
    ∀ i j : LaneId, i ≠ j → ∀ t u, s.lane i = some t → s.lane j = some u → t.port ≠ u.port

/-- A lane that follows a reply past its window has taken no more samples than its time holds, four a ms, unless the tick
count stands at its end (R1, R90, R92). -/
def State.LanesLegal (s : State) : Prop :=
  ∀ i t, s.lane i = some t → t.closed = true → t.samples.length ≤ 4 * (s.now - t.since) ∨ s.now = Config.tickMax

/-- While the part runs, RELEASE entries and transactions have the origin RELEASE and no others have it, a RELEASE entry
stands in RELEASING alone, for a fed port, and no qualification is in progress there (R3, R48, R67, R118). -/
def State.ReleasesLegal (s : State) : Prop :=
  s.isRunning = true →
    (s.mode = .releasing → s.mains.qual = .none) ∧ (∀ e ∈ s.lsu.queue, (e.kind = .release ↔ e.origin = .release) ∧
      (e.kind = .release → s.mode = .releasing ∧ (s.port e.port).feed.fed = true)) ∧
    ∀ i x, s.lane i = some x → (x.kind = .release ↔ x.origin = .release)

/-- While the part runs, the flag detectors that are armed are those that R93 arms. -/
def State.DetectorsLegal (s : State) : Prop :=
  s.isRunning = true → ∀ p, s.flag p ≠ .disarmed ↔ s.flagArmed p = true

/-! ### Feed states and modes (R61, R67) -/

/-- OFF or LOCKED_OUT. -/
def FeedState.unfed (f : FeedState) : Prop := f = .off ∨ f = .lockedOut

/-- No feed in STANDBY, QUALIFYING and DEPLETED; in RELEASING only TRICKLE and FULL beside OFF and LOCKED_OUT; passes in
OUTAGE and RESTORING alone; no request left over (R40, R61, R67). -/
def State.FeedLegal (s : State) : Prop :=
  s.budget.requested = 0 ∧ (s.mode.runsPasses = false → s.budget.work = none) ∧
    (s.mode.isOutageMode = false → ∀ p, (s.port p).feed.unfed) ∧
    (s.mode = .releasing → ∀ p, (s.port p).feed.unfed ∨ (s.port p).feed.fed = true)

/-- While the part runs, a scan in progress carries an account mark in OUTAGE, RESTORING and RELEASING alone (R19). -/
def State.MarkLegal (s : State) : Prop :=
  s.isRunning = true → s.bank.scanPos.isSome = true → s.bank.accountMark = true → s.mode.isOutageMode = true

/-! ### The fed ports and the pass in progress (R52) -/

/-- A fed port is enabled; while a pass is in progress it was a candidate when the pass began and has stayed one; the draws
that the pass read are within their ranges; and while the part runs, a candidate of the pass that has not left them is one
still. -/
def State.PassLegal (s : State) : Prop :=
  (∀ p, (s.port p).feed.fed = true → (s.port p).prov.enabled = true) ∧ (∀ p, (s.port p).prov.Legal) ∧
    ∀ w, s.budget.work = some w → ∀ p : Port,
      (10 ≤ w.input.ports[p].dt ∧ w.input.ports[p].dt ≤ w.input.ports[p].df) ∧
        ((s.port p).feed.fed = true → w.input.ports[p].candidate = true ∧ w.departed.getLsbD p.val = false) ∧
        (s.isRunning = true → w.input.ports[p].candidate = true → w.departed.getLsbD p.val = false →
          (s.port p).candidate = true)

/-- What the ports in TRICKLE and FULL cost at these draws (R52). -/
def State.charge (s : State) (dt df : Port → Nat) : Nat :=
  (allPorts.map fun p =>
    match (s.port p).feed with
    | .full => df p
    | .trickle => dt p
    | .off | .shed | .testing | .fault | .lockedOut => 0).sum

/-! ### The port records (R58) -/

/-- The counts of a port's record are within the ranges of R58, the retry wait runs in FAULT alone (R72), and the time in
TRICKLE runs in TRICKLE alone (R69). -/
def PortRecord.Legal (r : PortRecord) : Prop :=
  r.lineErr ≤ 160 ∧ r.faultCount ≤ 3 ∧ r.overdrawRun ≤ 5 ∧ r.noLoadRun ≤ 10 ∧ (∀ v, r.lastMv = some v → v ≤ 16380) ∧
    (r.retryAt.isSome = true ↔ r.feed = .fault) ∧ (r.trickleSince.isSome = true ↔ r.feed = .trickle)

/-- Every port's record is within its ranges. -/
def State.PortsLegal (s : State) : Prop := ∀ p, (s.port p).Legal

end Sys2Proof.Machine
end

