-- ==== Sys2Proof/Certificates/Slice0/Obligations.lean ====
section
/-! DEFINITION. The statements about the CS3210 that the provers settle. Each says in its docstring what it formalises. -/

open Sys2Proof Sys2Proof.Machine

/-! ### The machine -/

/-- After a power-on reset with a blank image: the ticks, the clock and the account at 0, no set, no pass, every port as in
R59 with the default provisioning, every queue, list, ring and slot empty, every flag detector disarmed, the defaults of
section 11.4 in use, and SETTINGS_DEFAULTED in both notice sets. MAINS_OK present and with it STANDBY, the straps, the blank
image and the account mark clear are the model's choice (log 3). -/
def Obligations.ResetValues : Prop :=
  (State.reset.time = { tick := 0, sinceSecond := 0, lastLevel := 0, clock := 0 } ∧
    State.reset.mains = { mode := .standby, sample := true, qual := .none, count := 0, outageNumber := 0 } ∧
    State.reset.lastReset = .powerOn ∧ State.reset.staging = none) ∧
  (State.reset.settings =
      { tHold := 240, margin := 100, pCeil := 9600, gCap := 3, dwell := 120, vGood := 11800, vFail := 11000, sagMax := 900,
        testLimit := 2, surveyOn := true, surveyDelay := 300, wakeAttempts := 3, wakeTimeout := 120, cap := 200000,
        vCut := 42000, rB := 0,
        ocv := #v[⟨44000, 0⟩, ⟨46000, 100⟩, ⟨47000, 250⟩, ⟨48000, 400⟩, ⟨49000, 550⟩, ⟨50000, 700⟩, ⟨51000, 820⟩,
          ⟨52000, 930⟩, ⟨53000, 1000⟩],
        style := .edge, tq := 2000, tr := 60, ringMode := .wrap } ∧
    State.reset.store = { image := .blank, write := none, source := .defaults }) ∧
  (State.reset.bank.scanPos = none ∧ State.reset.bank.accountMark = false ∧
    State.reset.bank.valid = false ∧ State.reset.bank.scanCount = 0 ∧
    State.reset.bank.cutoffRun = 0 ∧ State.reset.bank.last.vBank = 0 ∧ State.reset.bank.last.iBank = 0 ∧
    State.reset.bank.last.vFeed = 0 ∧ (∀ p : Port, State.reset.bank.last.iPort[p] = 0)) ∧
  State.reset.account =
    { eBank := 0, rLeft := 0, resBank := 0, resBldg := 0, bAvg := 0, bAvgStarted := false, breach := false } ∧
  (State.reset.budget.result.passCount = 0 ∧ State.reset.budget.work = none ∧
    State.reset.budget.pendingPass = false ∧ State.reset.budget.result.order = [] ∧
    (∀ p : Port, State.reset.budget.result.classes[p] = .none)) ∧
  (∀ p, State.reset.port p =
    { prov := { enabled := false, grade := 2, rep := .r4, dt := 60, df := 650 }, feed := .off, held := false,
      pollMark := false, terminal := .unknown, battery := .unknown, lastMv := none, lastSeq := none, lineErr := 0,
      faultCause := none, faultCount := 0, retryAt := none, trickleSince := none, overdrawRun := 0,
      noLoadRun := 0, trickleLimit := 60 * 10000 / 48000, wake := none, release := false, settle := .idle }) ∧
  (State.reset.lsu.queue = [] ∧ (∀ i, State.reset.lane i = none) ∧ (∀ p, State.reset.flag p = .disarmed) ∧
    State.reset.wakes.parked = [] ∧
    State.reset.tests.queue = [] ∧ State.reset.tests.contexts = [] ∧ State.reset.tests.survey = .none ∧
    State.reset.ring.records = [] ∧ State.reset.ring.nextSeq = 0 ∧ State.reset.ring.refusal = false ∧
    (∀ i, State.reset.slot i = Slot.free)) ∧
  (∀ l, (State.reset.link l).portCursor = 0 ∧ (State.reset.link l).cursor = none ∧ (State.reset.link l).missed = 0 ∧
    (State.reset.link l).follow = decide (l = .oLink) ∧ (State.reset.link l).notices = Notice.settingsDefaulted.bit ∧
    (State.reset.link l).cfg.mask = BitVec.allOnes 14 ∧ (State.reset.link l).cfg.width = 0 ∧
    (State.reset.link l).cfg.polarity = .activeLow ∧ (State.reset.link l).frameErrors = 0 ∧
    (State.reset.link l).overruns = 0 ∧ (State.reset.link l).inFlight = none ∧ (State.reset.link l).pulseEnd = none ∧
    (State.reset.link l).silent = true)

/-- A step takes the command at the front of the queue and runs it with the queue's rest. -/
def Obligations.StepTakesFront : Prop :=
  ∀ (s : State) (c : Instr) (rest : List Instr), s.pending = c :: rest → step s = exec c { s with pending := rest }

/-- A step on an empty queue is one 1 ms tick while the part runs, and nothing otherwise: the model's choice (log 1). The
tick count saturates (R1). What falls due at the tick takes no time of its own (log 2), in every state that keeps the
invariants of the queue and the lanes. -/
def Obligations.IdleStepIsOneMillisecond : Prop :=
  ∀ s : State, s.pending = [] →
    (s.isRunning = true → s.QueueLegal → s.LanesLegal →
      ∃ t, step s = .next t ∧ t.now = min (s.now + 1) 18446744073709551615 ∧ t.pending = []) ∧
    (s.isRunning = false → step s = .next s)

/-- Every command answers a next state and leaves the commands that wait as they are: the queue stands outside the part, and
no reset empties it (log 24). A part that does not run takes nothing but the end of a reset and the supply's events, which is
how the model reads R15 and R16 for every other row (log 8). -/
def Obligations.EveryCommandIsTaken : Prop :=
  ∀ (i : Instr) (s : State), (∃ t, exec i s = .next t ∧ t.pending = s.pending) ∧
    (s.phase ≠ .running → (∀ m a, i ≠ .powerOnReset m a) → (∀ m a, i ≠ .hardResetEnd m a) → i ≠ .lossOfSupply →
      exec i s = .next s)

/-! ### Frames (section 9.1) -/

/-- The framer reads back every command and every unknown command from the bytes that a master sends for it (R157).
FRAME_ADDRESS_DISCARD and FRAME_OVERRUN are left out: their bytes spell the command that the frame carries, and which row
takes it depends on the state. A SET-OCV frame whose part is neither 0 nor 1 is the row of part 0, which is the model's choice
(log 26). -/
def Obligations.CommandFramesRoundTrip : Prop :=
  ∀ (i : Instr) (f : Frame), i.wellFormed = true → i.frame? = some f →
    (∀ l a c ps, i ≠ .frameAddressDiscard l a c ps) → (∀ l a c ps, i ≠ .frameOverrun l a c ps) →
    decodeFrame f.link (frameBytes f.addr f.code f.params) = some i

/-- A frame whose CRC byte does not match is bad, a command frame whose length byte is above 24 is bad, and a frame cut
off before its CRC byte is bad; whatever the address (R158). A first byte other than 0xA5 is ignored (R157). -/
def Obligations.DamagedFramesAreBad : Prop :=
  ∀ (l : Link) (addr code len : Byte) (ps rest : List Byte) (crc first : Byte),
    (ps.length = len.toNat → (isCommandCode code = true → len.toNat ≤ 24) → crc ≠ crc8 (addr :: code :: len :: ps) →
      decodeFrame l (0xA5 :: addr :: code :: len :: (ps ++ crc :: rest)) = some (.badFrame l .crcMismatch)) ∧
    (isCommandCode code = true → 24 < len.toNat →
      decodeFrame l (0xA5 :: addr :: code :: len :: rest) = some (.badFrame l .lengthAbove24)) ∧
    ((isCommandCode code = true → len.toNat ≤ 24) → ps.length ≤ len.toNat →
      decodeFrame l (0xA5 :: addr :: code :: len :: ps) = some (.badFrame l .cutOff)) ∧
    (first ≠ 0xA5 → decodeFrame l (first :: rest) = some (.byteIgnoredUntilSilence l first))

/-! ### Taking a frame (sections 9.2 to 9.5) -/

/-- The checks of R162 in their order: a command of the other link is refused with REFUSED_LINK, then one not available in
the mode with REFUSED_MODE, then one of the wrong length with BAD_LENGTH; nothing else changes, and the reply carries the
status alone.

A port number above 31, a slot number above 11, a part, position or request kind outside its list is refused with
BAD_PARAM, and nothing else changes (R162, R173). -/
def Obligations.ChecksAreMadeInOrder : Prop :=
  (∀ (s : State) (l : Link) (addr : Byte) (ps : List Byte) (c : CommandSpec), c ∈ commandTable →
     s.ready l addr = true → ps.length ≤ 24 →
     (c.authority.allows l = false → exec (commandOf l addr c.code ps) s = .next (s.replied l c.code [5])) ∧
     (c.authority.allows l = true → c.availability.allows s.mode = false →
       exec (commandOf l addr c.code ps) s = .next (s.replied l c.code [6])) ∧
     (c.authority.allows l = true → c.availability.allows s.mode = true → ps.length ≠ c.length →
       exec (commandOf l addr c.code ps) s = .next (s.replied l c.code [3]))) ∧
  (∀ (s : State) (l : Link) (addr b x y z w : Byte), s.ready l addr = true →
     (31 < b.toNat → l = .oLink →
       exec (.portSet l addr [b, x, y, z]) s = .next (s.replied l 0x10 [2]) ∧
       exec (.portDraw l addr [b, x, y, z, w]) s = .next (s.replied l 0x11 [2]) ∧
       exec (.portClear l addr [b]) s = .next (s.replied l 0x12 [2]) ∧
       exec (.lineRestore l addr [b]) s = .next (s.replied l 0x13 [2]) ∧
       (s.mode = .outage → exec (.wake l addr [b]) s = .next (s.replied l 0x14 [2]) ∧
         exec (.testRequest l addr [b]) s = .next (s.replied l 0x16 [2])) ∧
       (s.mode.runsPasses = true → exec (.poll l addr [b, x]) s = .next (s.replied l 0x15 [2]) ∧
         exec (.testAbort l addr [b]) s = .next (s.replied l 0x17 [2]))) ∧
     (31 < b.toNat → exec (.readPort l addr [b]) s = .next (s.replied l 0x33 [2])) ∧
     (11 < b.toNat → exec (.slotRead l addr [b]) s = .next (s.replied l 0x41 [2]) ∧
       exec (.slotRelease l addr [b]) s = .next (s.replied l 0x42 [2]) ∧
       ∀ k m, exec (.slotConfigure l addr [b, x, y, z, w, k, m]) s = .next (s.replied l 0x40 [2])) ∧
     (2 < b.toNat → exec (.readStatus l addr [b]) s = .next (s.replied l 0x30 [2]) ∧
       (l = .oLink → s.mode.runsPasses = true → x.toNat ≤ 31 →
         exec (.poll l addr [x, b]) s = .next (s.replied l 0x15 [2]))) ∧
     (8 < b.toNat → exec (.readMeasure l addr [b]) s = .next (s.replied l 0x31 [2])) ∧
     (4 < b.toNat → exec (.readBudget l addr [b]) s = .next (s.replied l 0x32 [2])) ∧
     (1 < b.toNat → exec (.seekResult l addr [b]) s = .next (s.replied l 0x39 [2])))

/-- The frames that no command takes: an unknown code is answered UNKNOWN_CMD (R162); a frame that the address rules do
not accept is counted as a frame error or ignored (R159, R160); a frame that they accept while a command of the link is in
flight is an overrun, be it any command or a broadcast (R161). While the part is sending its reply the framer receives nothing
and measures no silence (R157).

The framer's events (R157, R158), the end of a reply (R161) and the end of an ATTN pulse (R172): each changes its
link's context alone, but for the time that a timed one carries to its own (log 2). Silence at the sixth tick, a cut-off frame
that leaves the line silent, and a frame on a line that is not silent taken as ignored bytes are the model's choice (log 25);
so are the time that a reply takes on the line (log 19), and the frame error that a part with no unit address counts for a
B-link frame to address 0 that is no BUILDING-LIMIT, by the table of R160 against its last sentences (log 39). -/
def Obligations.FramesAndFramerEvents : Prop :=
  (∀ (s : State) (l : Link) (addr code : Byte) (ps : List Byte), ps.length ≤ 24 →
     (s.ready l addr = true → isCommandCode code = true → code ∉ commandCodes →
       exec (.unknownCmd l addr code ps) s = .next (s.replied l code [4])) ∧
     (s.isRunning = true → s.sending l = false → (s.link l).silent = true → isCommandCode code = false →
       exec (.frameAddressDiscard l addr code ps) s = .next (s.taken l)) ∧
     (s.isRunning = true → s.sending l = false → (s.link l).silent = true → isCommandCode code = true →
       s.addressed l addr = false → ¬ (l = .bLink ∧ addr = 0 ∧ code = 0x23 ∧ ps.length = 1) →
       exec (.frameAddressDiscard l addr code ps) s =
         .next (if l = .oLink ∨ addr = 0 then
           (s.taken l).modLink l fun c => { c with frameErrors := min (c.frameErrors + 1) 255 } else s.taken l)) ∧
     (s.isRunning = true → s.sending l = false → (s.link l).silent = true → (s.link l).inFlight.isSome = true →
       isCommandCode code = true →
       (s.addressed l addr = true ∨ (l = .bLink ∧ addr = 0 ∧ code = 0x23 ∧ ps.length = 1)) →
       exec (.frameOverrun l addr code ps) s =
         .next ((s.taken l).modLink l fun c => { c with overruns := min (c.overruns + 1) 255 }) ∧
       exec (commandOf l addr code ps) s =
         .next ((s.taken l).modLink l fun c => { c with overruns := min (c.overruns + 1) 255 })) ∧
     (∀ replyTo frame start, (s.link l).inFlight = some ⟨replyTo, some frame⟩ → (s.link l).sendFrom = some start →
       start ≤ s.now →
       exec (.unknownCmd l addr code ps) s = .next s ∧ exec (.frameAddressDiscard l addr code ps) s = .next s ∧
       exec (.frameOverrun l addr code ps) s = .next s ∧ exec (commandOf l addr code ps) s = .next s ∧
       (∀ cause, exec (.badFrame l cause) s = .next s) ∧ exec (.byteIgnoredUntilSilence l addr) s = .next s ∧
       exec (.lineSilence l) s = .next s)) ∧
  (∀ (s : State) (l : Link), s.isRunning = true →
     (s.sending l = false →
       ((s.link l).silent = false →
         exec (.lineSilence l) s =
           .next ((s.advanceTo ((s.link l).lastByte + 6)).modLink l fun c => { c with silent := true })) ∧
       (∀ b, exec (.byteIgnoredUntilSilence l b) s =
         .next (if (s.link l).silent then if b = 0xA5 then s else s.taken l
           else s.modLink l fun c => { c with lastByte := s.now })) ∧
       (∀ cause, (s.link l).silent = true →
         exec (.badFrame l cause) s =
           .next ((if cause = .cutOff then s else s.taken l).modLink l fun c =>
             { c with frameErrors := min (c.frameErrors + 1) 255 })) ∧
       (∀ cause, (s.link l).silent = false →
         exec (.badFrame l cause) s = .next (s.modLink l fun c => { c with lastByte := s.now }))) ∧
     (∀ code frame start, (s.link l).inFlight = some ⟨code, some frame⟩ → (s.link l).sendFrom = some start →
       exec (.replySent l) s =
         .next (((s.advanceTo (start + (10000 * frame.length + 115199) / 115200)).modLink l fun c =>
           { c with inFlight := none, sendFrom := none }).taken l)) ∧
     (∀ t, (s.link l).pulseEnd = some t →
       exec (.attnPulseEnd l) s = .next ((s.advanceTo t).modLink l fun c => { c with pulseEnd := none })))

/-! ### Reads, notices, slots and results (sections 10.6 to 10.8) -/

/-- The reads answer OK with their fields, and change nothing but the port cursor of READ-PORT-NEXT, which goes on by one,
from P31 to P0. -/
def Obligations.ReadsAnswer : Prop :=
  ∀ (s : State) (l : Link) (addr b : Byte), s.ready l addr = true →
    exec (.readStatus l addr [0]) s = .next (s.replied l 0x30 (0 :: s.statusMode)) ∧
    exec (.readStatus l addr [1]) s = .next (s.replied l 0x30 (0 :: s.statusWork)) ∧
    exec (.readStatus l addr [2]) s = .next (s.replied l 0x30 (0 :: s.statusRing)) ∧
    exec (.readMeasure l addr [0]) s = .next (s.replied l 0x31 (0 :: s.measureBank)) ∧
    (1 ≤ b.toNat → b.toNat ≤ 8 →
      exec (.readMeasure l addr [b]) s = .next (s.replied l 0x31 (0 :: s.measurePorts b.toNat))) ∧
    exec (.readBudget l addr [0]) s = .next (s.replied l 0x32 (0 :: s.budgetAccount)) ∧
    exec (.readBudget l addr [1]) s = .next (s.replied l 0x32 (0 :: s.budgetAllowance)) ∧
    exec (.readBudget l addr [2]) s = .next (s.replied l 0x32 (0 :: s.budgetOrder 0)) ∧
    exec (.readBudget l addr [3]) s = .next (s.replied l 0x32 (0 :: s.budgetOrder 16)) ∧
    exec (.readBudget l addr [4]) s = .next (s.replied l 0x32 (0 :: s.budgetClasses)) ∧
    (∀ h : b.toNat < 32,
      exec (.readPort l addr [b]) s = .next (s.replied l 0x33 (0 :: s.portFields ⟨b.toNat, h⟩))) ∧
    ∃ next : Port, next.val = ((s.link l).portCursor.val + 1) % 32 ∧
      exec (.readPortNext l addr []) s =
        .next ((s.modLink l fun c => { c with portCursor := next }).replied l 0x34
          (0 :: s.portFields (s.link l).portCursor))

/-- READ-NOTICES reports the link's notice set and empties it (R169); SET-NOTICE-MASK sets the mask without bits 14 and 15
(R170); SET-ATTN sets the width and the polarity, and level style ends a running pulse (R172); READ-COUNTERS reports the
three counts and sets them to 0 (R168). The other link's context and all else are unchanged. That a mask with no kinds lets
a running pulse go on to its end is the model's choice (log 41).

A notice enters a set once, whatever the mask; in pulse style a kind of the mask that was not in the set starts a pulse
of the width if none is running; in level style the output is asserted while the masked set is not empty (R169, R171,
R172). -/
def Obligations.NoticesAndAttn : Prop :=
  (∀ (s : State) (l : Link) (addr a b : Byte), s.ready l addr = true →
     exec (.readNotices l addr []) s =
       .next ((s.modLink l fun c => { c with notices := 0 }).replied l 0x48 (0 :: u16 (s.link l).notices.toNat)) ∧
     exec (.setNoticeMask l addr [a, b]) s =
       .next ((s.modLink l fun c => { c with cfg := { c.cfg with mask := BitVec.ofNat 14 (le16 a b) } }).replied l 0x49
         (0 :: (u16 (le16 a b % 16384) ++ u16 (s.link l).notices.toNat))) ∧
     exec (.setAttn l addr [a, b]) s =
       .next ((s.modLink l fun c =>
         { c with
           cfg := { c.cfg with width := a.toNat, polarity := if b = 0 then .activeLow else .activeHigh }
           pulseEnd := if a = 0 then none else c.pulseEnd }).replied l 0x4A
         [if b.toNat ≤ 1 then 0 else 1, a, if b = 0 then 0 else 1]) ∧
     exec (.readCounters l addr []) s =
       .next ((s.modLink l fun c => { c with frameErrors := 0, overruns := 0, missed := 0 }).replied l 0x4B
         (0 :: (u8 (s.link l).frameErrors ++ u8 (s.link l).overruns ++ u8 (s.link l).missed)))) ∧
  (∀ (s : State) (l : Link) (k : Notice),
     (∀ n, ((s.notify l k).link l).notices.getLsbD n = ((s.link l).notices.getLsbD n || decide (n = k.number))) ∧
     ((s.link l).cfg.width ≠ 0 → (s.link l).pulseEnd = none → (s.link l).cfg.mask.getLsbD k.number = true →
       (s.link l).notices.getLsbD k.number = false →
       ((s.notify l k).link l).pulseEnd = some (s.now + (s.link l).cfg.width)) ∧
     ((s.link l).cfg.width = 0 ∨ (s.link l).pulseEnd ≠ none ∨ (s.link l).cfg.mask.getLsbD k.number = false ∨
       (s.link l).notices.getLsbD k.number = true → ((s.notify l k).link l).pulseEnd = (s.link l).pulseEnd) ∧
     (s.isRunning = true → (s.link l).cfg.width = 0 →
       (s.attnHigh l = true ↔
         ((s.link l).cfg.polarity = .activeHigh ↔
           ∃ n, n < 14 ∧ (s.link l).notices.getLsbD n = true ∧ (s.link l).cfg.mask.getLsbD n = true))) ∧
     (s.isRunning = true → (s.link l).cfg.width ≠ 0 →
       (s.attnHigh l = true ↔ ((s.link l).cfg.polarity = .activeHigh ↔ (s.link l).pulseEnd ≠ none))) ∧
     (s.isRunning = false → s.attnHigh l = true))

/-- SLOT-CONFIGURE takes a slot that is free or the link's own, and empties it; SLOT-READ reports a full slot, which the
owner's read empties; SLOT-RELEASE frees the link's own slot; a slot of the other link is refused with OWNED where the
command would change it (R153 to R155).

A delivery fills the lowest matching slot that is empty, or overwrites the lowest matching slot in REPLACE, or counts
the reply as lost at the lowest matching slot; SLOT_FILLED goes to the owner of a slot that takes the reply (R156). -/
def Obligations.SlotsAndDelivery : Prop :=
  (∀ (s : State) (l : Link) (addr b p0 p1 p2 p3 k m : Byte) (h : b.toNat < 12), s.ready l addr = true →
     (((s.slot ⟨b.toNat, h⟩).owner = none ∨ (s.slot ⟨b.toNat, h⟩).owner = some l) →
       exec (.slotConfigure l addr [b, p0, p1, p2, p3, k, m]) s =
         .next ((s.modSlot ⟨b.toNat, h⟩ fun _ =>
           { owner := some l, ports := lePorts p0 p1 p2 p3, kinds := k.setWidth 4,
             mode := if m = 0 then .hold else .replace, overwritten := false, lost := 0, content := none }).replied l 0x40
           [if m.toNat ≤ 1 then 0 else 1, b, p0, p1, p2, p3, k &&& 15, if m = 0 then 0 else 1])) ∧
     ((∃ o, (s.slot ⟨b.toNat, h⟩).owner = some o ∧ o ≠ l) →
       exec (.slotConfigure l addr [b, p0, p1, p2, p3, k, m]) s = .next (s.replied l 0x40 [7]) ∧
       exec (.slotRelease l addr [b]) s = .next (s.replied l 0x42 [7])) ∧
     ((s.slot ⟨b.toNat, h⟩).owner = some l →
       exec (.slotRelease l addr [b]) s =
         .next ((s.modSlot ⟨b.toNat, h⟩ fun _ => Slot.free).replied l 0x42 [0, b, 0])) ∧
     ((s.slot ⟨b.toNat, h⟩).owner = none →
       exec (.slotRelease l addr [b]) s = .next (s.replied l 0x42 [0, b, 0])) ∧
     ((s.slot ⟨b.toNat, h⟩).content = none →
       exec (.slotRead l addr [b]) s =
         .next (s.replied l 0x41
           ([10, b] ++ u8 (ownerCode (s.slot ⟨b.toNat, h⟩).owner) ++ u8 (s.slot ⟨b.toNat, h⟩).mode.code))) ∧
     (∀ c, (s.slot ⟨b.toNat, h⟩).content = some c →
       exec (.slotRead l addr [b]) s =
         .next ((if (s.slot ⟨b.toNat, h⟩).owner = some l then
             s.modSlot ⟨b.toNat, h⟩ fun t => { t with content := none, overwritten := false, lost := 0 }
           else s).replied l 0x41
           ([0, b] ++ u8 (ownerCode (s.slot ⟨b.toNat, h⟩).owner) ++ u8 (s.slot ⟨b.toNat, h⟩).mode.code ++ u8 c.port.val ++
             u8 c.kind.fieldCode ++ u16 c.value ++ u16 c.outageNumber.toNat ++ u32 c.clock ++
             mark (s.slot ⟨b.toNat, h⟩).overwritten ++ u8 (s.slot ⟨b.toNat, h⟩).lost)))) ∧
  (∀ (s : State) (p : Port) (r : Reply),
     (∀ i : SlotId, (s.slot i).matches p r.kind = true → (s.slot i).content = none →
       (∀ j : SlotId, j < i → (s.slot j).matches p r.kind = true → (s.slot j).content ≠ none) →
       s.deliver p r = (s.modSlot i fun t => { t with content := some (s.message p r) }).notifyOwner (s.slot i).owner) ∧
     ((∀ j : SlotId, (s.slot j).matches p r.kind = true → (s.slot j).content ≠ none) →
       (∀ i : SlotId, (s.slot i).matches p r.kind = true → (s.slot i).mode = .replace →
         (∀ j : SlotId, j < i → (s.slot j).matches p r.kind = true → (s.slot j).mode = .hold) →
         s.deliver p r =
           (s.modSlot i fun t => { t with content := some (s.message p r), overwritten := true }).notifyOwner
             (s.slot i).owner) ∧
       ((∀ j : SlotId, (s.slot j).matches p r.kind = true → (s.slot j).mode = .hold) →
         (∀ i : SlotId, (s.slot i).matches p r.kind = true →
           (∀ j : SlotId, j < i → (s.slot j).matches p r.kind = false) →
           s.deliver p r = s.modSlot i fun t => { t with lost := min (t.lost + 1) 15 }) ∧
         ((∀ j : SlotId, (s.slot j).matches p r.kind = false) → s.deliver p r = s))))

/-- READ-RESULT, SEEK-RESULT and SET-FOLLOW in WRAP: the record at the link's cursor is reported and the cursor goes on, a
cursor at "end" is answered EMPTY, a seek sets the cursor, and nothing is removed (R147, R150, R151).

READ-RESULT, SEEK-RESULT and a SET-FOLLOW that changes the flag in HOLD: as in WRAP, and then the sweep of R148. With
no port in the test queue the ring and the cursors are as the sweep leaves them, and the ports, the slots, the account and
the settings are unchanged. A SET-FOLLOW that changes nothing sweeps nothing. -/
def Obligations.ResultCommands : Prop :=
  (∀ (s : State) (l : Link) (addr b : Byte), s.ready l addr = true → s.settings.ringMode = .wrap →
     (∀ (i : Nat) (h : i < s.ring.records.length), (s.link l).cursor = some s.ring.records[i].seq →
       (∀ j, (hj : j < i) → s.ring.records[j].seq ≠ s.ring.records[i].seq) →
       exec (.readResult l addr []) s =
         .next ((s.modLink l fun c => { c with cursor := (s.ring.records[i + 1]?).map fun r => r.seq }).replied l 0x38
           (0 :: (s.ring.records[i].bytes ++ u8 (s.ring.records.length - i - 1) ++ u8 (s.link l).missed)))) ∧
     ((s.link l).cursor = none → exec (.readResult l addr []) s = .next (s.replied l 0x38 (10 :: u8 (s.link l).missed))) ∧
     exec (.seekResult l addr [0]) s =
       .next ((s.modLink l fun c => { c with cursor := (s.ring.records.head?).map fun r => r.seq }).replied l 0x39
         (0 :: u8 s.ring.records.length)) ∧
     exec (.seekResult l addr [1]) s = .next ((s.modLink l fun c => { c with cursor := none }).replied l 0x39 [0, 0]) ∧
     exec (.setFollow l addr [b]) s =
       .next ((s.modLink l fun c => { c with follow := b ≠ 0 }).replied l 0x3A
         ([if b.toNat ≤ 1 then 0 else 1, if b = 0 then 0 else 1] ++ u8 s.ring.records.length))) ∧
  (∀ (s : State) (l : Link) (addr b : Byte) (i : Instr) (moved : State) (code : Byte) (reply : State → List Byte),
     s.ready l addr = true → s.settings.ringMode = .hold → s.tests.queue = [] → s.budget.requested = 0 →
     ((i = .readResult l addr [] ∧ code = 0x38 ∧
         ((∃ r k, s.cursorRecord l = some (r, k) ∧
             moved = (s.modLink l fun c => { c with cursor := (s.ring.records[k + 1]?).map fun r => r.seq }) ∧
             reply = fun _ => 0 :: (r.bytes ++ u8 (s.ring.records.length - k - 1) ++ u8 (s.link l).missed)) ∨
           (s.cursorRecord l = none ∧ moved = s ∧ reply = fun _ => 10 :: u8 (s.link l).missed))) ∨
       (i = .seekResult l addr [b] ∧ b.toNat ≤ 1 ∧ code = 0x39 ∧
         moved = (s.modLink l fun c =>
           { c with cursor := if b = 1 then none else (s.ring.records.head?).map fun r => r.seq }) ∧
         reply = fun t => 0 :: u8 (t.recordsLeft l)) ∨
       (i = .setFollow l addr [b] ∧ (s.link l).follow ≠ (b ≠ 0 : Bool) ∧ code = 0x3A ∧
         moved = (s.modLink l fun c => { c with follow := b ≠ 0 }) ∧
         reply = fun t => [if b.toNat ≤ 1 then 0 else 1, if b = 0 then 0 else 1] ++ u8 t.ring.records.length)) →
     (∃ t, exec i s = .next t ∧ t.ring = moved.holdSweep.ring ∧
       (∀ m, (t.link m).cursor = (moved.holdSweep.link m).cursor ∧ (t.link m).missed = (moved.holdSweep.link m).missed ∧
         (t.link m).notices = (moved.holdSweep.link m).notices) ∧
       (t.link l).inFlight = some ⟨code, some (frameBytes s.replyAddress (code ||| 0x80) (reply moved.holdSweep))⟩ ∧
       t.ports = s.ports ∧ t.slots = s.slots ∧ t.account = s.account ∧ t.settings = s.settings ∧ t.mains = s.mains ∧
       t.budget = s.budget ∧ t.tests = s.tests ∧ t.wakes = s.wakes) ∧
     ((s.link l).follow = (b ≠ 0 : Bool) →
       exec (.setFollow l addr [b]) s =
         .next (s.replied l 0x3A ([if b.toNat ≤ 1 then 0 else 1, if b = 0 then 0 else 1] ++ u8 s.ring.records.length))))

/-- The sweep of HOLD takes from the oldest end every record that the cursor of every following link is past, and nothing
when no link follows. A cursor on a removed record goes to the oldest that remains, with the removed records from it on
counted as missed and RING_OVERRUN for that link; a cursor past them stays (R146, R148). -/
def Obligations.SweepsRemoveWhatFollowersHavePassed : Prop :=
  ∀ s : State, s.settings.ringMode = .hold → s.RingLegal →
    ∃ k, k ≤ s.ring.records.length ∧ s.holdSweep.ring.records = s.ring.records.drop k ∧
      ((∀ l, (s.link l).follow = false) → k = 0) ∧
      (∀ l, (s.link l).follow = true → k ≤ cursorIndex s.ring.records (s.link l).cursor) ∧
      ((∃ l, (s.link l).follow = true) →
        ∃ l, (s.link l).follow = true ∧ k = cursorIndex s.ring.records (s.link l).cursor) ∧
      (∀ l, k ≤ cursorIndex s.ring.records (s.link l).cursor → s.holdSweep.link l = s.link l) ∧
      (∀ l, cursorIndex s.ring.records (s.link l).cursor < k →
        (s.holdSweep.link l).cursor = (s.ring.records[k]?).map (fun r => r.seq) ∧
        (s.holdSweep.link l).missed =
          min ((s.link l).missed + (k - cursorIndex s.ring.records (s.link l).cursor)) 255 ∧
        (s.holdSweep.link l).notices = (s.link l).notices ||| Notice.ringOverrun.bit) ∧
      (s.holdSweep.ring.refusal = true ↔ 64 ≤ s.ring.records.length - k)

/-- An append makes room first, gives the record the next sequence number, puts it at the newest end, sets the port's last
sequence number and the cursors at "end", raises TEST_DONE and judges the refusal mark (R143). -/
def Obligations.AppendTakesTheNextNumber : Prop :=
  ∀ (s : State) (r : TestRecord), s.RingLegal →
    (s.appendRecord r).ring.records =
      s.ring.records.drop (s.ring.records.length - 63) ++ [{ r with seq := s.ring.nextSeq }] ∧
    (s.appendRecord r).ring.nextSeq = s.ring.nextSeq + 1 ∧
    ((s.appendRecord r).ring.refusal = true ↔ s.settings.ringMode = .hold ∧ 63 ≤ s.ring.records.length) ∧
    ((s.appendRecord r).port r.port = { s.port r.port with lastSeq := some s.ring.nextSeq }) ∧
    (∀ l, (s.link l).cursor = none → ((s.appendRecord r).link l).cursor = some s.ring.nextSeq) ∧
    (∀ l, ((s.appendRecord r).link l).notices.getLsbD 8 = true) ∧
    (∀ l q, (s.link l).cursor = some q →
      (s.ring.records.length < 64 ∨ (s.link l).cursor ≠ (s.ring.records.head?).map (fun r => r.seq)) →
      ((s.appendRecord r).link l).cursor = some q ∧ ((s.appendRecord r).link l).missed = (s.link l).missed) ∧
    (∀ l, s.ring.records.length = 64 → (s.link l).cursor = (s.ring.records.head?).map (fun r => r.seq) →
      ((s.appendRecord r).link l).cursor = (s.ring.records[1]?).map (fun r => r.seq) ∧
      ((s.appendRecord r).link l).missed = min ((s.link l).missed + 1) 255 ∧
      ((s.appendRecord r).link l).notices.getLsbD 11 = true)

/-! ### The settings commands (sections 10.3 to 10.5) -/

/-- SET-HOLD sets its three values, each clamped to its range, and requests a pass when one of them changes in OUTAGE or
RESTORING; nothing else changes (R38).

BUILDING-LIMIT sets the grade cap, a value above 3 lowered to 3, and requests a pass when it changes in OUTAGE or
RESTORING; a broadcast does the same without a reply (R39, R160). -/
def Obligations.BudgetSettings : Prop :=
  (∀ (s : State) (addr a b c d e f : Byte) (th m pc : Nat), s.ready .oLink addr = true → s.budget.requested = 0 →
     th = max 10 (min 1440 (le16 a b)) → m = min 2000 (le16 c d) → pc = min 9600 (le16 e f) →
     exec (.setHold .oLink addr [a, b, c, d, e, f]) s =
       .next ((({ s with settings := { s.settings with tHold := th, margin := m, pCeil := pc } }).withPass 0x40
         (decide (s.settings.tHold ≠ th ∨ s.settings.margin ≠ m ∨ s.settings.pCeil ≠ pc))).replied .oLink 0x20
         ((if th = le16 a b ∧ m = le16 c d ∧ pc = le16 e f then 0 else 1) :: (u16 th ++ u16 m ++ u16 pc)))) ∧
  (∀ (s : State) (addr g : Byte) (cap : Fin 4) (t : State), s.budget.requested = 0 → cap.val = min g.toNat 3 →
     t = ({ s with settings := { s.settings with gCap := cap } }).withPass 0x40 (decide (s.settings.gCap ≠ cap)) →
     (s.ready .bLink addr = true →
       exec (.buildingLimit .bLink addr [g]) s =
         .next (t.replied .bLink 0x23 ((if g.toNat ≤ 3 then 0 else 1) :: u8 cap.val))) ∧
     (s.isRunning = true → s.bLink.silent = true → s.bLink.inFlight = none →
       exec (.buildingLimit .bLink 0 [g]) s = .next (t.taken .bLink)))

/-- SET-BANK sets V_cut and C, each clamped to its range; a lowered C lowers E_bank, R_b and R_left to what it allows, and a C
raised or repeated leaves E_bank and R_left (R24, R26, R28). That any change of C, R_b, E_bank or R_left requests a pass
in OUTAGE and RESTORING is the model's reading of R40 against R28 (log 16).

SET-RESERVE sets R_b, clamped to C. In OUTAGE, RESTORING and RELEASING it claims the reserve anew, with a pass in the
first two when R_b or R_left changes; in every other mode R_left is not changed (R34). -/
def Obligations.BankSettings : Prop :=
  (∀ (s : State) (addr a b c d e f : Byte) (cap v rB eB left : Nat), s.ready .bLink addr = true →
     s.budget.requested = 0 → cap = max 1000 (min 2000000 (le32 a b c d)) → v = max 36000 (min 48000 (le16 e f)) →
     rB = min s.settings.rB cap →
     eB = (if cap < s.settings.cap then min s.account.eBank cap else s.account.eBank) →
     left = (if cap < s.settings.cap then min s.account.rLeft (min rB eB) else s.account.rLeft) →
     exec (.setBank .bLink addr [a, b, c, d, e, f]) s =
       .next ((({ s with
           settings := { s.settings with cap := cap, vCut := v, rB := rB }
           account := { s.account with eBank := eB, rLeft := left } }).withPass 0x40
         (decide (s.settings.cap ≠ cap ∨ s.settings.rB ≠ rB ∨ s.account.eBank ≠ eB ∨ s.account.rLeft ≠ left))).replied
         .bLink 0x21
         ((if cap = le32 a b c d ∧ v = le16 e f then 0 else 1) :: (u32 cap ++ u16 v ++ u32 eB ++ u32 rB ++ u32 left)))) ∧
  (∀ (s : State) (addr a b c d : Byte) (rB left : Nat), s.ready .bLink addr = true → s.budget.requested = 0 →
     rB = min (le32 a b c d) s.settings.cap → left = min rB s.account.eBank →
     (s.mode = .outage ∨ s.mode = .restoring ∨ s.mode = .releasing →
       exec (.setReserve .bLink addr [a, b, c, d]) s =
         .next ((({ s with
             settings := { s.settings with rB := rB }
             account := { s.account with rLeft := left, resBldg := if left = 0 then 0 else s.account.resBldg } }).withPass 0x40
           (decide (s.settings.rB ≠ rB ∨ s.account.rLeft ≠ left))).replied .bLink 0x22
           ((if rB = le32 a b c d then 0 else 1) :: (u32 rB ++ u32 left)))) ∧
     (s.mode = .standby ∨ s.mode = .qualifying ∨ s.mode = .depleted →
       exec (.setReserve .bLink addr [a, b, c, d]) s =
         .next (({ s with settings := { s.settings with rB := rB } }).replied .bLink 0x22
           ((if rB = le32 a b c d then 0 else 1) :: (u32 rB ++ u32 s.account.rLeft)))))

/-- SET-OCV: part 0 fills the staging record and is not judged; part 1 that joins the record with a valid table sets the
table, one that does not match the record's last point or gives an invalid table is refused and empties the record, and one
without a record, or another part value, is refused (R27, R178). -/
def Obligations.SetOcv : Prop :=
  ∀ (s : State) (addr part : Byte) (ps : List Byte) (table : Vector OcvPoint 9), s.ready .bLink addr = true →
    ps.length = 20 →
    (exec (.setOcvPart0 .bLink addr (0 :: ps)) s =
      .next (({ s with staging := some (stagedPoints (ocvPoints ps)) }).replied .bLink 0x24 [0, 0])) ∧
    (1 < part.toNat → exec (.setOcvPart0 .bLink addr (part :: ps)) s = .next (s.replied .bLink 0x24 [2])) ∧
    (s.staging = none → exec (.setOcvPart1 .bLink addr (1 :: ps)) s = .next (s.replied .bLink 0x24 [2])) ∧
    (∀ staged, s.staging = some staged →
      ((ocvPoints ps)[0]? ≠ some staged[4] ∨ table = joinedTable staged (ocvPoints ps) ∧ ocvValid table = false →
        exec (.setOcvPart1 .bLink addr (1 :: ps)) s = .next (({ s with staging := none }).replied .bLink 0x24 [2])) ∧
      ((ocvPoints ps)[0]? = some staged[4] → table = joinedTable staged (ocvPoints ps) → ocvValid table = true →
        (table.toList = staged.toList ++ (ocvPoints ps).drop 1) ∧
        exec (.setOcvPart1 .bLink addr (1 :: ps)) s =
          .next (({ s with staging := none, settings := { s.settings with ocv := table } }).replied .bLink 0x24
            (0 :: 1 :: tableBytes table))))

/-- SET-MAINS sets the style, T_q (clamped, and raised to a multiple of 100 ms) and T_r. A repetition leaves the
qualification as it is, and so does a change of T_q or T_r that does not make it due; a change of style sets the mode and
the qualification afresh from the current sample. The reply reports the mode and the count after the command (R4, R7,
R179). -/
def Obligations.SetMains : Prop :=
  ∀ (s : State) (addr st a b c d : Byte) (style : Style) (tq tr : Nat), s.ready .bLink addr = true →
    style = (if st = 0 then .edge else .level) → tq = (max 500 (min 10000 (le16 a b)) + 99) / 100 * 100 →
    tr = max 10 (min 600 (le16 c d)) →
    ∃ t, exec (.setMains .bLink addr [st, a, b, c, d]) s = .next t ∧
      t.settings = { s.settings with style := style, tq := tq, tr := tr } ∧
      t.bLink.inFlight = some ⟨0x25, some (frameBytes s.replyAddress 0xA5
        ((if st.toNat ≤ 1 ∧ tq = le16 a b ∧ tr = le16 c d then 0 else 1) ::
          (u8 style.code ++ u16 tq ++ u16 tr ++ u8 t.mode.code ++ u32 t.mains.count)))⟩ ∧
      t.time.tick = s.time.tick ∧ (∀ p, (t.port p).prov = (s.port p).prov) ∧ t.slots = s.slots ∧ t.store = s.store ∧
      (style ≠ s.settings.style ∨ (tq = s.settings.tq ∧ tr = s.settings.tr) ∨ s.mains.qual = .none ∨
          s.mains.count < qualTarget s.mains.qual style tq tr →
        t.steady = (({ s with settings := { s.settings with style := style, tq := tq, tr := tr } }).replied .bLink 0x25
          ((if st.toNat ≤ 1 ∧ tq = le16 a b ∧ tr = le16 c d then 0 else 1) ::
            (u8 style.code ++ u16 tq ++ u16 tr ++ u8 t.mode.code ++ u32 t.mains.count))).steady) ∧
      (style = s.settings.style →
        (tq = s.settings.tq ∧ tr = s.settings.tr) ∨ s.mains.qual = .none ∨
          s.mains.count < qualTarget s.mains.qual style tq tr → t.mains = s.mains) ∧
      (style ≠ s.settings.style → t.mains = s.mains.afresh (zeroCount style)) ∧
      (style = s.settings.style → ¬ (tq = s.settings.tq ∧ tr = s.settings.tr) →
        qualTarget s.mains.qual style tq tr ≤ s.mains.count →
        (s.mains.qual = .outage → s.bank.valid = false → t.mains = s.mains) ∧
        (s.mains.qual = .outage → s.bank.valid = true →
          t.mains = { s.mains with
            mode := .outage, qual := .none, count := 0, outageNumber := s.mains.outageNumber + 1 }) ∧
        (s.mains.qual = .restore → s.mode = .restoring → t.mode = .releasing ∨ t.mode = .standby) ∧
        (s.mains.qual = .restore → s.mode = .depleted →
          t.mains = { s.mains with mode := .standby, qual := .none, count := 0 }))

/-- SET-RING sets the ring mode, a value above HOLD taken as HOLD. A repetition changes nothing; a change into HOLD sweeps,
with what the sweep does to the links' cursors, missed-record counts and notices, and judges the refusal mark; a change into
WRAP clears it (R144, R146, R148). With no port in the test queue nothing else changes but what the lane arbiter does. -/
def Obligations.SetRing : Prop :=
  ∀ (s : State) (addr b : Byte) (m : RingMode), s.ready .bLink addr = true → m = (if b = 0 then .wrap else .hold) →
    (s.settings.ringMode = m →
      exec (.setRing .bLink addr [b]) s =
        .next (s.replied .bLink 0x26 ((if b.toNat ≤ 1 then 0 else 1) :: (u8 m.code ++ mark s.ring.refusal)))) ∧
    (s.settings.ringMode ≠ m → s.tests.queue = [] → s.budget.requested = 0 →
      ∀ u v : State, u = { s with settings := { s.settings with ringMode := m } } →
        (m = .wrap → v = { u with ring := { s.ring with refusal := false } }) → (m = .hold → v = u.holdSweep.judgeRefusal) →
        exec (.setRing .bLink addr [b]) s =
          .next (({ v with lsu := s.arbitrate.lsu }).replied .bLink 0x26
            ((if b.toNat ≤ 1 then 0 else 1) :: (u8 m.code ++ mark v.ring.refusal))) ∧
        v.ports = s.ports ∧ v.slots = s.slots ∧ v.account = s.account ∧ v.mains = s.mains ∧ v.budget = s.budget ∧
        v.tests = s.tests ∧ v.wakes = s.wakes ∧ v.time = s.time ∧ v.bank = s.bank ∧ v.store = s.store ∧
        v.staging = s.staging ∧ v.straps = s.straps ∧ (m = .wrap → v.oLink = s.oLink ∧ v.bLink = s.bLink) ∧
        ∀ l, (v.link l).cfg = (s.link l).cfg ∧ (v.link l).follow = (s.link l).follow ∧
          (v.link l).portCursor = (s.link l).portCursor)

/-- SET-TEST and SET-WAKE set their values, each clamped, V_fail not above V_good; a survey delay at or below the outage
clock makes a waiting survey due at once (R110, R122). -/
def Obligations.TestAndWakeSettings : Prop :=
  ∀ (s : State) (addr n d0 d1 g0 g1 f0 f1 s0 s1 lim en y0 y1 : Byte) (dwell vGood vFail sag limit delay attempts timeout : Nat),
    s.ready .oLink addr = true →
    dwell = max 30 (min 900 (le16 d0 d1)) → vGood = max 5000 (min 16000 (le16 g0 g1)) →
    vFail = min (max 5000 (min 16000 (le16 f0 f1))) vGood → sag = min 5000 (le16 s0 s1) →
    limit = max 1 (min 8 lim.toNat) → delay = min 3600 (le16 y0 y1) →
    attempts = max 1 (min 8 n.toNat) → timeout = max 30 (min 600 (le16 d0 d1)) →
    (∃ t, exec (.setTest .oLink addr [d0, d1, g0, g1, f0, f1, s0, s1, lim, en, y0, y1]) s = .next t ∧
      t.steady = (({ s with settings :=
          { s.settings with
            dwell := dwell, vGood := vGood, vFail := vFail, sagMax := sag, testLimit := limit, surveyOn := en ≠ 0,
            surveyDelay := delay } }).replied .oLink 0x28
        ((if dwell = le16 d0 d1 ∧ vGood = le16 g0 g1 ∧ vFail = le16 f0 f1 ∧ sag = le16 s0 s1 ∧ limit = lim.toNat ∧
            en.toNat ≤ 1 ∧ delay = le16 y0 y1 then 0 else 1) ::
          (u16 dwell ++ u16 vGood ++ u16 vFail ++ u16 sag ++ u8 limit ++ mark (en ≠ 0) ++ u16 delay))).steady ∧
      (t.mains = s.mains ∧ t.slots = s.slots ∧ ∀ p, (t.port p).feed = (s.port p).feed) ∧
      (t.tests.survey =
        if s.tests.survey = .waiting ∧ s.mode.runsPasses = true ∧ delay ≤ s.time.clock then .done else s.tests.survey)) ∧
    exec (.setWake .oLink addr [n, d0, d1]) s =
      .next (({ s with settings := { s.settings with wakeAttempts := attempts, wakeTimeout := timeout } }).replied
        .oLink 0x29 ((if attempts = n.toNat ∧ timeout = le16 d0 d1 then 0 else 1) :: (u8 attempts ++ u16 timeout)))

/-- SAVE-SETTINGS takes a copy of every value and stays in flight; when the write ends the image is that copy with its
CRC-16 (a free value of its content, log 33), which the next load takes, and the reply OK is formed, begun at a time that
the manual leaves open (log 19); while the other link writes, SAVE-SETTINGS and RESTART are refused with BUSY_STORE (R186,
R188). That a write end with no write in progress changes nothing is the model's choice (log 8). -/
def Obligations.SettingsAreSavedAsTaken : Prop :=
  (∀ (s : State) (l : Link) (addr : Byte), s.ready l addr = true →
    ((∀ w, s.store.write = some w → w.link = l) →
      exec (.saveSettings l addr []) s =
        .next (({ s with store := { s.store with write := some { link := l, copy := s.imageNow } } }.taken l).modLink l
          fun c => { c with inFlight := some ⟨0x50, none⟩, sendFrom := none })) ∧
    (∀ w, s.store.write = some w → w.link ≠ l →
      exec (.saveSettings l addr []) s = .next (s.replied l 0x50 [9]) ∧
      exec (.restart l addr []) s = .next (s.replied l 0x51 [9]))) ∧
  (∀ s : State, s.isRunning = true →
    (∀ w, s.store.write = some w →
      exec .settingsWriteEnd s =
        .next (({ s with store :=
            { s.store with image := .written w.copy (Config.imageCrc w.copy.values), write := none } }).modLink w.link
          fun c =>
            { c with
              inFlight := some ⟨0x50, some (frameBytes s.replyAddress 0xD0 [0])⟩
              sendFrom := some (s.now + Config.replyWait (linkNumber w.link) s.now) }) ∧
      ∀ t, exec .settingsWriteEnd s = .next t → t.store.loaded = w.copy ∧ t.store.loadSource = .image) ∧
    (s.store.write = none → exec .settingsWriteEnd s = .next s))

/-! ### RESTART (R17, R186) -/

/-- RESTART keeps the ticks, the outage number and the outage clock; ends every transaction, so that a lane is in one only
for an entry that this step has made; ends every wake and test, each test with its record ABORTED_RESTART; ends every
release but those that it queues anew in RELEASING; frees every slot; loads the image or the defaults; clamps the account;
sets the port cursors to P0, the result cursors to the oldest record, the follow flags to their defaults and the missed-
record counts to 0; sets the mode and the qualification from the current sample; and runs one pass in OUTAGE and RESTORING.
Its reply carries OK alone (R17, R35, R83, R85, R118, R137, R145, R168, R186, R189). That MAINS_OK absent in RELEASING gives
OUTAGE with one pass for both (log 9), that the pass has the kinds of the one it ends too (log 15), and that the counts and
cursors are set after the tests' records (log 21), is the model's reading. -/
def Obligations.RestartStartsAfresh : Prop :=
  ∀ (s : State) (l : Link) (addr : Byte) (d : ImageData), s.ready l addr = true →
    (∀ w, s.store.write = some w → w.link = l) → s.account.rLeft ≤ s.account.eBank →
    (∀ p, (s.port p).feed = .testing → (s.testOf p).isSome = true) →
    d = (match s.store.image with
      | .written d crc => if crc = Config.imageCrc d.values then d else defaultImage
      | .blank | .incomplete => defaultImage) →
    ∃ t, exec (.restart l addr []) s = .next t ∧
      (t.time = s.time ∧ t.mains.outageNumber = s.mains.outageNumber ∧ t.mains.sample = s.mains.sample ∧
        t.bank = { s.bank with
          scanPos := none
          accountMark := s.bank.accountMark && decide (¬ (s.mode = .releasing ∧ t.mode = .standby))
          cutoffRun := if s.mode ≠ .standby ∧ t.mode = .standby then 0 else s.bank.cutoffRun } ∧
        t.lastReset = .restart ∧
        t.straps = s.straps ∧ t.phase = s.phase) ∧
      (t.mains = s.mains.afresh (zeroCount d.settings.style) ∨
        s.mode = .releasing ∧ s.mains.sample = true ∧ t.mode = .standby ∧ ∀ p, (t.port p).feed.fed = false) ∧
      (t.settings = d.settings ∧
        (∀ p : Port, (t.port p).prov = d.ports[p] ∧
          (t.port p).trickleLimit = d.ports[p].dt * 10000 / t.bank.feedVoltage) ∧
        (∀ m, (t.link m).cfg = (match m with
          | .oLink => d.oLink
          | .bLink => d.bLink)) ∧
        t.store.image = s.store.image ∧
        (t.store.source = .image ↔ s.store.image = .written d (Config.imageCrc d.values))) ∧
      t.account =
        { s.account with
          eBank := min s.account.eBank d.settings.cap
          rLeft := min s.account.rLeft (min d.settings.rB (min s.account.eBank d.settings.cap)) } ∧
      ((∀ p, (t.port p).wake = none ∧ (t.port p).lineErr = 0 ∧ (t.port p).feed ≠ .testing ∧
          (t.port p).release = decide (s.mode = .releasing ∧ s.mains.sample = true ∧ (t.port p).feed.fed = true)) ∧
        t.tests.contexts = [] ∧ t.tests.queue = [] ∧ (∀ i, t.slot i = Slot.free) ∧ t.staging = none ∧
        t.wakes = { parked := [], settling := [] } ∧
        (∀ e ∈ t.lsu.queue, (e.origin = .release ∨ e.origin = .auto) ∧ e.enqueued = s.now) ∧
        ∀ i x, t.lane i = some x → x.stage = .bursting ∧ x.since = s.now ∧
          ∃ e ∈ t.lsu.queue, e.port = x.port ∧ e.kind = x.kind ∧ e.origin = x.origin ∧ e.inLane = true) ∧
      (t.budget.work = none ∧ t.budget.pendingPass = false ∧
        (t.mode.runsPasses = true → t.budget.result.passCount = s.budget.result.passCount + 1 ∧
          t.budget.result.causes = (if s.mode = .releasing then 0x0C else 0x08) |||
            ((s.budget.work.map fun w => w.causes).getD 0)) ∧
        (t.mode.runsPasses = false → t.budget.result = s.budget.result)) ∧
      (∀ p c, s.testOf p = some c → ∃ r ∈ t.ring.records, r.port = c.port ∧ r.outcome = .abortedRestart ∧
        r.outageNumber = s.mains.outageNumber ∧ r.origin = c.origin ∧ r.start = c.start ∧
        r.dwell = ((c.entered.map fun x => (s.now - x) / 1000).getD 0) ∧ r.v0 = c.v0 ∧ r.v1 = c.v1) ∧
      (∀ m, (t.link m).portCursor = 0 ∧ (t.link m).frameErrors = 0 ∧ (t.link m).overruns = 0 ∧
        (t.link m).cursor = (t.ring.records.head?).map (fun r => r.seq) ∧ (t.link m).missed = 0 ∧
        (t.link m).follow = decide (m = .oLink)) ∧
      (t.link l).inFlight = some ⟨0x51, some (frameBytes s.replyAddress 0xD1 [0])⟩

/-! ### Ports and terminals (section 10.2) -/

/-- PORT-SET sets the enabled flag, the grade and the repeat count, a grade above 3 lowered to 3 and a repeat count raised to
the next of 1, 4, 8, 16. With the flag as it was, a change of grade requests a pass and nothing else changes (R80). Enabling
a port in OFF makes it a candidate in OUTAGE and RESTORING, and leaves every other feed state (R81). Disabling takes the
port to OFF unless it is LOCKED_OUT, and removes its wake, its test and its queue entries (R82); in OUTAGE and RESTORING a
disabling that changes the feed state requests a pass of kind FEED (R40), for a port in FAULT too, which R82 does not name
(log 34). -/
def Obligations.PortSet : Prop :=
  ∀ (s : State) (addr b en g r : Byte) (h : b.toNat < 32) (p : Port) (grade : Fin 4) (rep : Repeat) (status : Byte),
    s.ready .oLink addr = true → s.budget.requested = 0 → p = ⟨b.toNat, h⟩ → grade.val = min g.toNat 3 →
    rep = (if r.toNat ≤ 1 then .r1 else if r.toNat ≤ 4 then .r4 else if r.toNat ≤ 8 then .r8 else .r16) →
    status = (if en.toNat ≤ 1 ∧ g.toNat ≤ 3 ∧ rep.count = r.toNat then 0 else 1) →
    ((s.port p).prov.enabled = (en ≠ 0 : Bool) →
      exec (.portSet .oLink addr [b, en, g, r]) s =
        .next (((s.modPort p fun x => { x with prov := { x.prov with grade := grade, rep := rep } }).withPass 0x40
          (decide ((s.port p).prov.grade ≠ grade))).replied .oLink 0x10
          (status :: b :: (mark (en ≠ 0) ++ u8 grade.val ++ u8 rep.count ++ u8 (s.port p).feed.code)))) ∧
    ((s.port p).prov.enabled ≠ (en ≠ 0 : Bool) →
      ∃ t, exec (.portSet .oLink addr [b, en, g, r]) s = .next t ∧
        (t.steady = ((s.modPort p fun x =>
            { x with prov := { x.prov with enabled := en ≠ 0, grade := grade, rep := rep } }).replied .oLink 0x10
          (status :: b :: (mark (en ≠ 0) ++ u8 grade.val ++ u8 rep.count ++ u8 (t.port p).feed.code))).steady) ∧
        (t.port p).prov = { (s.port p).prov with enabled := en ≠ 0, grade := grade, rep := rep } ∧
        (∀ q, q ≠ p → (t.port q).feed = (s.port q).feed ∧ (t.port q).prov = (s.port q).prov ∧
          (t.port q).terminal = (s.port q).terminal) ∧ t.slots = s.slots ∧
        (en ≠ 0 → t.mode = s.mode ∧
          ((s.port p).feed = .off → s.mode.runsPasses = true →
            (t.port p).feed = .shed ∧ (t.port p).terminal = .unknown ∧ (t.port p).pollMark = true ∧ t.asked s 0x10) ∧
          (¬ ((s.port p).feed = .off ∧ s.mode.runsPasses = true) →
            (t.port p).feed = (s.port p).feed ∧ (t.port p).terminal = (s.port p).terminal)) ∧
        (en = 0 → (t.port p).feed = (if (s.port p).feed = .lockedOut then .lockedOut else .off) ∧
          (t.port p).terminal = .unknown ∧ (t.port p).held = false ∧ (t.port p).pollMark = false ∧
          (t.port p).overdrawRun = 0 ∧ (t.port p).noLoadRun = 0 ∧ (t.port p).wake = none ∧ (t.port p).release = false ∧
          (t.port p).faultCount = (s.port p).faultCount ∧ (t.port p).faultCause = (s.port p).faultCause ∧
          t.testOf p = none ∧ t.inTestQueue p = false ∧ (∀ e ∈ t.lsu.queue, e.port ≠ p) ∧
          ((s.port p).feed.signallable = true → t.serving p = false) ∧
          (s.mode.runsPasses = true → (s.port p).feed ≠ .off → (s.port p).feed ≠ .lockedOut → t.asked s 0x10) ∧
          (s.mode ≠ .releasing → t.mode = s.mode) ∧
          (s.mode = .releasing → t.mode = .releasing ∨
            t.mode = .standby ∧ (s.port p).feed.fed = true ∧ ∀ q, q ≠ p → (s.port q).feed.fed = false)))

/-- PORT-DRAW clamps both draws to 10 to 2,500 cW and the trickle draw to the full draw, sets them, recomputes the trickle
limit, and requests a pass when a draw changes in OUTAGE or RESTORING; nothing else changes (R60, R79).

PORT-CLEAR sets the fault count to 0 and the fault cause to absent. A LOCKED_OUT or FAULT port that is enabled becomes a
candidate in OUTAGE and RESTORING; a LOCKED_OUT port goes OFF otherwise; every other port keeps its feed state (R73). In
OUTAGE and RESTORING each of these changes requests a pass of kind FEED (R40), that of a disabled LOCKED_OUT port to OFF too,
for which R73 names none (log 34). -/
def Obligations.PortDrawAndClear : Prop :=
  (∀ (s : State) (addr b t0 t1 f0 f1 : Byte) (h : b.toNat < 32) (p : Port) (dt df volts : Nat),
     s.ready .oLink addr = true → s.budget.requested = 0 → p = ⟨b.toNat, h⟩ →
     df = max 10 (min 2500 (le16 f0 f1)) → dt = min (max 10 (min 2500 (le16 t0 t1))) df →
     volts = (if s.bank.valid = false ∨ s.bank.last.vFeed < 10000 then 48000 else s.bank.last.vFeed) →
     exec (.portDraw .oLink addr [b, t0, t1, f0, f1]) s =
       .next (((s.modPort p fun x =>
           { x with prov := { x.prov with dt := dt, df := df }, trickleLimit := dt * 10000 / volts }).withPass 0x40
         (decide ((s.port p).prov.dt ≠ dt ∨ (s.port p).prov.df ≠ df))).replied .oLink 0x11
         ((if dt = le16 t0 t1 ∧ df = le16 f0 f1 then 0 else 1) :: b :: (u16 dt ++ u16 df)))) ∧
  (∀ (s : State) (addr b : Byte) (h : b.toNat < 32) (p : Port), s.ready .oLink addr = true → p = ⟨b.toNat, h⟩ →
     ∃ t, exec (.portClear .oLink addr [b]) s = .next t ∧
       t.steady = (s.replied .oLink 0x12 (0 :: b :: (u8 (t.port p).feed.code ++ [0]))).steady ∧
       (t.port p).faultCount = 0 ∧ (t.port p).faultCause = none ∧ t.mains = s.mains ∧ t.slots = s.slots ∧
       (∀ q, (t.port q).terminal = (s.port q).terminal) ∧
       (∀ q, q ≠ p → (t.port q).feed = (s.port q).feed ∧ (t.port q).faultCount = (s.port q).faultCount) ∧
       ((s.port p).feed = .lockedOut ∨ (s.port p).feed = .fault →
         ((s.port p).prov.enabled = true → s.mode.runsPasses = true →
           (t.port p).feed = .shed ∧ (t.port p).pollMark = true ∧ (t.port p).retryAt = none ∧ t.asked s 0x10) ∧
         (¬ ((s.port p).prov.enabled = true ∧ s.mode.runsPasses = true) →
           (t.port p).feed = if (s.port p).feed = .lockedOut then .off else .fault) ∧
         (s.mode.runsPasses = true → (s.port p).feed = .lockedOut → t.asked s 0x10)) ∧
       ((s.port p).feed ≠ .lockedOut → (s.port p).feed ≠ .fault → (t.port p).feed = (s.port p).feed))

/-- LINE-RESTORE sets the line error count to 0. On a MUTED port that can be signalled, in OUTAGE and RESTORING, it
requests an AUTO POLL, and the reply says what became of it: added, merged or dropped with SIGNAL_DROPPED (R107, R174). -/
def Obligations.LineRestore : Prop :=
  ∀ (s : State) (addr b : Byte) (h : b.toNat < 32) (p : Port) (fate : Byte), s.ready .oLink addr = true →
    p = ⟨b.toNat, h⟩ →
    fate = (if (s.port p).lineErr = 160 ∧ s.mode.runsPasses = true ∧ (s.port p).feed.signallable = true then
        if (s.entry? p .poll .other).isSome then 2 else if s.lsu.queue.length < 48 then 1 else 3
      else 0) → (s.port p).lineErr ≤ 160 →
    ∃ t, exec (.lineRestore .oLink addr [b]) s = .next t ∧
      t.steady = (s.replied .oLink 0x13 [0, b, 0, fate]).steady ∧
      (t.port p).lineErr = 0 ∧ (∀ q, q ≠ p → (t.port q).lineErr = (s.port q).lineErr) ∧
      (∀ q, (t.port q).feed = (s.port q).feed ∧ (t.port q).terminal = (s.port q).terminal) ∧
      t.mains = s.mains ∧ t.slots = s.slots ∧
      (fate = 1 → ∃ e, t.entry? p .poll .other = some e ∧ e.origin = .auto ∧ e.attempts = 2 ∧ e.enqueued = s.now ∧
        e.notBefore = s.now) ∧
      (fate = 3 → ∀ l, (t.link l).notices.getLsbD 12 = true)

/-- WAKE makes no wake for a disabled port or a terminal AWAKE or CALL; gives a standing wake a new expiry; and otherwise
makes a wake, PARKED outside FULL, SIGNALLING on a settled port and SETTLING on one that has not settled, with a pass of kind
WAKE; the expiry is the present time plus the timeout (R111). A wake that is parked requests the kind DEMAND beside it (R40),
which R111 does not name (log 29). -/
def Obligations.Wake : Prop :=
  ∀ (s : State) (addr b : Byte) (h : b.toNat < 32) (p : Port), s.ready .oLink addr = true → p = ⟨b.toNat, h⟩ →
    s.mode = .outage → s.budget.requested = 0 →
    ((s.port p).prov.enabled = false ∨ (s.port p).terminal = .awake ∨ (s.port p).terminal = .call →
      exec (.wake .oLink addr [b]) s = .next (s.replied .oLink 0x14 [0, b, 0])) ∧
    ((s.port p).prov.enabled = true → (s.port p).terminal ≠ .awake → (s.port p).terminal ≠ .call →
      ∃ (t : State) (did : Byte), exec (.wake .oLink addr [b]) s = .next t ∧
        t.steady = (s.replied .oLink 0x14 [0, b, did]).steady ∧ t.asked s 0x80 ∧ t.mains = s.mains ∧
        t.slots = s.slots ∧ (∀ q, (t.port q).feed = (s.port q).feed) ∧
        (∀ q, q ≠ p → (t.port q).wake = (s.port q).wake) ∧
        (∀ w, (s.port p).wake = some w → did = 1 ∧ t.wakes = s.wakes ∧
          (t.port p).wake = some { w with expiry := s.now + s.settings.wakeTimeout * 1000 }) ∧
        ((s.port p).wake = none →
          ((s.port p).feed ≠ .full → t.asked s 0x20 ∧ did = 2 ∧ t.wakes = { s.wakes with parked := s.wakes.parked ++ [p] } ∧
            (t.port p).wake = some ⟨.parked, s.now + s.settings.wakeTimeout * 1000⟩) ∧
          ((s.port p).feed = .full → (s.port p).settle ≠ .settled → did = 3 ∧
            (t.port p).wake = some ⟨.settling, s.now + s.settings.wakeTimeout * 1000⟩) ∧
          ((s.port p).feed = .full → (s.port p).settle = .settled → did = 4 ∧
            ((s.entry? p .wake .other).isSome = true ∨ s.lsu.queue.length < 48 →
              (t.port p).wake = some ⟨.signalling, s.now + s.settings.wakeTimeout * 1000⟩ ∧
              (t.entry? p .wake .other).isSome = true) ∧
            ((s.entry? p .wake .other).isSome = false → 48 ≤ s.lsu.queue.length →
              (t.port p).wake = none ∧ (t.port p).terminal = .unknown ∧
              ∀ l, (t.link l).notices.getLsbD 12 = true ∧ (t.link l).notices.getLsbD 6 = true))))

/-- POLL adds an O-link entry with two attempts at the present time, merges with one that stands, or is refused with FULL
at a full queue, in OUTAGE and RESTORING; the reply counts the queue after the command (R96, R97, R175). -/
def Obligations.Poll : Prop :=
  ∀ (s : State) (addr b k : Byte) (h : b.toNat < 32) (p : Port) (kind : RequestKind), s.ready .oLink addr = true →
    p = ⟨b.toNat, h⟩ → s.mode.runsPasses = true →
    (k = 0 ∧ kind = .poll) ∨ (k = 1 ∧ kind = .batteryQuery) ∨ (k = 2 ∧ kind = .drawQuery) →
    ((s.entry? p kind .other).isSome = true →
      exec (.poll .oLink addr [b, k]) s = .next (s.replied .oLink 0x15 ([0, b, k, 1] ++ u8 s.lsu.queue.length))) ∧
    ((s.entry? p kind .other).isSome = false → 48 ≤ s.lsu.queue.length →
      exec (.poll .oLink addr [b, k]) s = .next (s.replied .oLink 0x15 [8])) ∧
    ((s.entry? p kind .other).isSome = false → s.lsu.queue.length < 48 →
      ∃ t, exec (.poll .oLink addr [b, k]) s = .next t ∧
        t.steady = (s.replied .oLink 0x15 ([0, b, k, 0] ++ u8 t.lsu.queue.length)).steady ∧
        (∃ e, t.entry? p kind .other = some e ∧ e.origin = .oLink ∧ e.attempts = 2 ∧ e.enqueued = s.now ∧
          e.notBefore = s.now) ∧
        (s.tests.queue = [] → t.lsu.queue.length = s.lsu.queue.length + 1 ∧ t.tests = s.tests ∧ t.ring = s.ring) ∧
        (∀ q, (t.port q).feed = (s.port q).feed ∧ (t.port q).terminal = (s.port q).terminal ∧
          (t.port q).wake = (s.port q).wake) ∧ t.mains = s.mains ∧ t.slots = s.slots)

/-- TEST-REQUEST does nothing for a disabled port, merges with a test or an entry of the port, and otherwise queues the port
and walks the queue: with no other port queued the test starts at once when the port, the limit and the ring allow it, with
its context in PRE-QUERY and a BATTERY-QUERY of origin TEST (R123, R125, R127).

TEST-ABORT aborts the port's test with a record ABORTED_MASTER, or takes the port out of the test queue, or changes nothing;
a port in TESTING becomes a candidate (R134, R136).

The stages: the pre-query's BATTERY sets V0 and asks for TEST-BEGIN (R127); its ACK takes the port into TESTING and starts
the dwell (R64, R128); the post-query's BATTERY grades the port, which becomes a candidate, and the record tells the grade
(R130, R133). A final failure before TESTING is NO_REPORT and touches neither feed nor grade (R127, R128); after it, it is
LOST_ON_BATTERY: grade FAILED, terminal UNKNOWN, SHED, and an automatic wake (R117, R131), which stands whatever reply came
last (log 32). -/
def Obligations.TestCommands : Prop :=
  (∀ (s : State) (addr b : Byte) (h : b.toNat < 32) (p : Port), s.ready .oLink addr = true → p = ⟨b.toNat, h⟩ →
     s.mode = .outage →
     ((s.port p).prov.enabled = false →
       exec (.testRequest .oLink addr [b]) s =
         .next (s.replied .oLink 0x16 ([0, b, 0] ++ u8 s.tests.queue.length ++ u8 s.tests.contexts.length))) ∧
     ((s.port p).prov.enabled = true → (s.testOf p).isSome = true ∨ s.inTestQueue p = true →
       exec (.testRequest .oLink addr [b]) s =
         .next (s.replied .oLink 0x16 ([0, b, 1] ++ u8 s.tests.queue.length ++ u8 s.tests.contexts.length))) ∧
     ((s.port p).prov.enabled = true → s.testOf p = none → s.inTestQueue p = false →
       ∃ t, exec (.testRequest .oLink addr [b]) s = .next t ∧
         t.steady = (s.replied .oLink 0x16 ([0, b, if t.inTestQueue p then 2 else 3] ++ u8 t.tests.queue.length ++
           u8 t.tests.contexts.length)).steady ∧
         (∀ q, (t.port q).feed = (s.port q).feed ∧ (t.port q).battery = (s.port q).battery) ∧ t.mains = s.mains ∧
         t.slots = s.slots ∧
         (s.tests.queue = [] →
           ((s.port p).feed.fed = true ∧ (s.port p).lineErr < 160 ∧ (s.port p).terminal ≠ .absent ∧
               s.tests.contexts.length < s.settings.testLimit ∧ s.ring.refusal = false →
             (s.entry? p .batteryQuery .test).isSome = false → s.lsu.queue.length < 48 →
             t.tests = { s.tests with contexts := s.tests.contexts ++
               [{ port := p, origin := .oLink, stage := .preQuery, start := s.time.clock, v0 := none, v1 := none,
                  entered := none, dwellEnd := none }] } ∧
             ∃ e, t.entry? p .batteryQuery .test = some e ∧ e.attempts = 2 ∧ e.enqueued = s.now) ∧
           (¬ ((s.port p).feed.fed = true ∧ (s.port p).lineErr < 160 ∧ (s.port p).terminal ≠ .absent ∧
               s.tests.contexts.length < s.settings.testLimit ∧ s.ring.refusal = false) →
             t.tests = { s.tests with queue := [(p, .oLink)] })))) ∧
  (∀ (s : State) (addr b : Byte) (h : b.toNat < 32) (p : Port), s.ready .oLink addr = true → p = ⟨b.toNat, h⟩ →
     s.mode.runsPasses = true →
     (∀ c, s.testOf p = some c → s.tests.queue = [] → s.RingLegal → s.budget.requested = 0 →
       ∃ t, exec (.testAbort .oLink addr [b]) s = .next t ∧
         t.steady = (s.replied .oLink 0x17 [0, b, 0]).steady ∧ t.mains = s.mains ∧ t.slots = s.slots ∧
         t.testOf p = none ∧ (∀ q, q ≠ p → t.testOf q = s.testOf q ∧ (t.port q).feed = (s.port q).feed) ∧
         t.ring.records.getLast? = some
           { seq := s.ring.nextSeq, outageNumber := s.mains.outageNumber, port := c.port, origin := c.origin,
             start := c.start, dwell := (c.entered.map fun x => (s.now - x) / 1000).getD 0, outcome := .abortedMaster,
             v0 := c.v0, v1 := c.v1 } ∧
         (∀ e ∈ t.lsu.queue, e.port = p → e.origin ≠ .test) ∧
         ((s.port p).feed = .testing → (t.port p).feed = .shed ∧ t.asked s 0x10) ∧
         ((s.port p).feed ≠ .testing → (t.port p).feed = (s.port p).feed) ∧
         (t.port p).battery = (s.port p).battery ∧ (t.port p).terminal = (s.port p).terminal) ∧
     (s.testOf p = none → s.inTestQueue p = true →
       exec (.testAbort .oLink addr [b]) s =
         .next (({ s with tests := { s.tests with queue := s.tests.queue.filter fun e => decide (e.1 ≠ p) } }).replied
           .oLink 0x17 [0, b, 1])) ∧
     (s.testOf p = none → s.inTestQueue p = false →
       exec (.testAbort .oLink addr [b]) s = .next (s.replied .oLink 0x17 [0, b, 2]))) ∧
  (∀ (s t : State) (i : LaneId) (x : Transaction) (c : TestContext) (e : Entry) (r : Reply) (o : LaneOutcome) (p : Port)
     (entry : TestOutcome → Option Nat → TestRecord), s.lane i = some x → x.origin = .test → p = x.port →
     s.orphaned x = false → s.testOf p = some c → s.entry? p x.kind .test = some e → s.QueueLegal →
     s.mode.runsPasses = true → t = s.endTransaction i x o →
     (entry = fun out v => { seq := s.ring.nextSeq, outageNumber := s.mains.outageNumber, port := c.port, origin := c.origin,
                             start := c.start, dwell := (c.entered.map fun n => (s.now - n) / 1000).getD 0, outcome := out,
                             v0 := c.v0, v1 := v }) →
     (o = .replied r → c.stage = .preQuery → x.kind = .batteryQuery → r.kind = .battery →
       t.testOf p = some { c with v0 := some (4 * r.value), stage := .begin_ } ∧
       (t.entry? p .testBegin .test).isSome = true ∧ (t.port p).feed = (s.port p).feed) ∧
     (o = .replied r → c.stage = .begin_ → x.kind = .testBegin → r.kind = .ack → (s.port p).feed.fed = true →
       t.testOf p = some
         { c with stage := .dwell, entered := some s.now, dwellEnd := some (s.now + s.settings.dwell * 1000) } ∧
       (t.port p).feed = .testing ∧ t.budget.requested &&& 0x10 = 0x10) ∧
     (∀ v0 v1, o = .replied r → c.stage = .postQuery → x.kind = .batteryQuery → r.kind = .battery → c.v0 = some v0 →
       v1 = 4 * r.value → (s.port p).feed = .testing →
       t.testOf p = none ∧ (t.port p).feed = .shed ∧ t.budget.requested &&& 0x10 = 0x10 ∧
       (t.port p).battery = (if v1 < s.settings.vFail ∨ v0 > v1 + s.settings.sagMax then .failed
         else if v1 < s.settings.vGood then .weak else .good) ∧
       ((t.port p).battery ≠ (s.port p).battery → t.budget.requested &&& 0x20 = 0x20) ∧
       t.ring.records.getLast? = some (entry (if v1 < s.settings.vFail ∨ v0 > v1 + s.settings.sagMax then .failed
         else if v1 < s.settings.vGood then .weak else .good) (some v1))) ∧
     (e.attempts ≤ 1 →
       o = .failed ∧ (s.port p).lineErr + 8 < 160 ∨ (∃ q, o = .replied q ∧ q.kind ≠ expectedReply x.kind) →
       (c.stage = .preQuery ∨ c.stage = .begin_ → t.testOf p = none ∧ (t.port p).feed = (s.port p).feed ∧
         (t.port p).battery = (s.port p).battery ∧ t.ring.records.getLast? = some (entry .noReport c.v1)) ∧
       (c.stage = .postQuery → (s.port p).feed = .testing → (s.port p).prov.enabled = true →
         t.testOf p = none ∧ (t.port p).feed = .shed ∧ (t.port p).battery = .failed ∧ (t.port p).terminal = .unknown ∧
         t.ring.records.getLast? = some (entry .lostOnBattery c.v1) ∧ t.budget.requested &&& 0x10 = 0x10 ∧
         ∃ g, (t.port p).wake = some ⟨g, s.now + s.settings.wakeTimeout * 1000⟩ ∧
           ((s.port p).wake = none → g = .parked ∧ p ∈ t.wakes.parked))))

/-! ### The mains line and the modes (chapter 1) -/

/-- MAINS_OK_CHANGE acts in EDGE style as the table of R5 gives and in LEVEL style on the sample alone; a sample that is no
change changes nothing (log 8). The account, the clock, the outage number and the settings are unchanged. -/
def Obligations.EdgeTable : Prop :=
  ∀ (s : State) (present : Bool), s.isRunning = true →
    (s.mains.sample = present → exec (.mainsOkChange present) s = .next s) ∧
    (s.mains.sample ≠ present → s.settings.style = .level →
      exec (.mainsOkChange present) s = .next { s with mains := { s.mains with sample := present } }) ∧
    (s.mains.sample ≠ present → s.settings.style = .edge →
      ∃ t, exec (.mainsOkChange present) s = .next t ∧
        t.mains = ({ s.mains with sample := present } : Mains).atLevel present 0 ∧
        t.steady = ({ s with mains := { s.mains with sample := present } } : State).steady ∧ t.slots = s.slots ∧
        (s.mode ≠ .releasing → ∀ q, (t.port q).feed = (s.port q).feed ∧ (t.port q).terminal = (s.port q).terminal))

/-- LEVEL_SAMPLE acts in LEVEL style as the table of R6 gives: it takes the next 100 ms sample, and a count that reaches
its threshold completes the qualification, held until a scan has completed. In EDGE style it changes nothing (log 8). The
samples fall on the whole multiples of 100 of the tick count, and each is used in its turn (R3). That the row carries the
time to the next sample, that one which another row has passed stays due, and that the last level is taken from the sample
are the model's choice (log 2), and so are the count's end at 6,000 and a DEPLETED count of 0 that is no qualification in
progress (log 23). -/
def Obligations.LevelTable : Prop :=
  ∀ (s : State) (present up : Bool) (m : Mains), s.isRunning = true →
    (s.settings.style = .edge → exec (.levelSample present) s = .next s) ∧
    (s.settings.style = .level → m = ({ s.mains with sample := present } : Mains).atSample present →
      up = decide (s.mode = .qualifying ∧ present = false ∨ s.mode = .restoring ∧ present = true ∨
        s.mode = .depleted ∧ present = true ∧ s.mains.qual ≠ .none) →
      ∃ t, exec (.levelSample present) s = .next t ∧ t.mains.sample = present ∧
        t.time.lastLevel = (s.time.lastLevel / 100 + 1) * 100 ∧
        t.now = (s.advanceTo ((s.time.lastLevel / 100 + 1) * 100)).now ∧ t.settings = s.settings ∧ t.slots = s.slots ∧
        (m.count < qualTarget m.qual .level s.settings.tq s.settings.tr ∨ up = false ∨ m.qual = .none →
          t.mains = m ∧ t.account = s.account ∧ t.time.clock = s.time.clock) ∧
        (qualTarget m.qual .level s.settings.tq s.settings.tr ≤ m.count → up = true →
          (s.mode = .qualifying → present = false → m.qual = .outage → s.bank.valid = false → t.mains = m) ∧
          (s.mode = .qualifying → present = false → m.qual = .outage → s.bank.valid = true →
            t.mains = { m with mode := .outage, qual := .none, count := 0, outageNumber := m.outageNumber + 1 }) ∧
          (s.mode = .restoring → present = true → m.qual = .restore → t.mode = .releasing ∨ t.mode = .standby) ∧
          (s.mode = .depleted → present = true → s.mains.qual = .restore →
            t.mains = { m with mode := .standby, qual := .none, count := 0 })))

/-- OUTAGE_TIMER_EXPIRY with a completed scan starts the outage: the outage number goes on by one, the clock is 0, the
account is estimated from the last set, every port's terminal is UNKNOWN and its counts 0, every enabled OFF port is a
candidate that the first pass has placed, the survey waits (or is due at once with a delay of 0), an AUTO POLL is queued for
each such port that the pass feeds, the others keep their poll marks, and OUTAGE_BEGIN is raised (R9, R30, R63, R66, R124).
Without one it is held (R8). That the row carries the time on until the count has reached T_q (log 2), and that an expiry that
does not arise changes nothing (log 8), are the model's choice. -/
def Obligations.OutageStart : Prop :=
  ∀ s : State, s.isRunning = true → s.settings.style = .edge → s.mains.qual = .outage → s.mode = .qualifying →
    s.mains.count ≤ s.settings.tq → (∀ p, (s.port p).feed.unfed) →
    (s.bank.valid = false → ∃ t, exec .outageTimerExpiry s = .next t ∧
      t.mains = { s.mains with count := s.settings.tq } ∧ t.qualHeld = true ∧ t.account = s.account) ∧
    (s.bank.valid = true → ∃ t, exec .outageTimerExpiry s = .next t ∧
      t.mains =
        { s.mains with mode := .outage, qual := .none, count := 0, outageNumber := s.mains.outageNumber + 1 } ∧
      t.time.clock = 0 ∧
      t.account =
        { eBank := s.settings.cap * soc s.settings.ocv s.bank.last.vBank / 1000,
          rLeft := min s.settings.rB (s.settings.cap * soc s.settings.ocv s.bank.last.vBank / 1000), resBank := 0,
          resBldg := 0, bAvg := 0, bAvgStarted := false, breach := false } ∧
      (∀ p, (t.port p).terminal = .unknown ∧ (t.port p).faultCount = 0 ∧ (t.port p).lineErr = 0 ∧
        (t.port p).overdrawRun = 0 ∧ (t.port p).noLoadRun = 0 ∧ (t.port p).battery = (s.port p).battery ∧
        (t.port p).faultCause = (if (s.port p).feed = .lockedOut then (s.port p).faultCause else none)) ∧
      (∀ p, (s.port p).prov.enabled = true → (s.port p).feed = .off →
        t.budget.result.classes[p] ≠ .none ∧ (t.port p).feed = t.budget.result.classes[p].feed) ∧
      (∀ p, (s.port p).prov.enabled = false ∨ (s.port p).feed = .lockedOut →
        t.budget.result.classes[p] = .none ∧ (t.port p).feed = (s.port p).feed) ∧
      t.budget.result.passCount = s.budget.result.passCount + 1 ∧ t.budget.result.causes &&& 0x02 = 0x02 ∧
      t.tests.survey = (if s.settings.surveyDelay = 0 then .done else .waiting) ∧
      (∀ p, (s.port p).prov.enabled = true → (s.port p).feed = .off →
        (t.port p).pollMark = decide (t.budget.result.classes[p] = .shed)) ∧
      (s.lsu.queue = [] → ∀ p, (s.port p).prov.enabled = true → (s.port p).feed = .off →
        t.budget.result.classes[p].feed.fed = true →
        ∃ e, t.entry? p .poll .other = some e ∧ e.origin = .auto ∧ e.attempts = 2 ∧ e.enqueued = t.now) ∧
      (∀ l, (t.link l).notices.getLsbD 0 = true) ∧ t.settings = s.settings ∧ t.slots = s.slots ∧ t.bank = s.bank) ∧
    (∀ u : State, u.isRunning = true →
      ¬ (u.settings.style = .edge ∧ u.mains.qual = .outage ∧ u.mode = .qualifying) → exec .outageTimerExpiry u = .next u)

/-- Mains lost in RELEASING continues the outage: the number, the clock and the account are kept, every RELEASE entry and
release goes, the enabled OFF ports are candidates in UNKNOWN that the pass of kind RESUME places, and the fed ports come
to that pass with their terminal states (R12, R66). So does a change of MAINS_OK in EDGE style (R5), a sample that finds it
absent in LEVEL style (R6), and a SET-MAINS that changes the style while the most recent sample is absent (R7). That
LEVEL_SAMPLE carries the time to the next sample is the model's choice (log 2). -/
def Obligations.ResumedOutage : Prop :=
  ∀ (s : State) (i : Instr) (time : TimeBase) (settings : Settings) (next : Nat), s.isRunning = true →
    s.mode = .releasing → (∀ p, (s.port p).feed.unfed ∨ (s.port p).feed.fed = true) →
    next = (s.time.lastLevel / 100 + 1) * 100 →
    (i = .mainsOkChange false ∧ s.settings.style = .edge ∧ s.mains.sample = true ∧ time = s.time ∧ settings = s.settings) ∨
      (i = .levelSample false ∧ s.settings.style = .level ∧
        time = { (s.advanceTo next).time with lastLevel := next } ∧ settings = s.settings) ∨
      (∃ addr st a b c d, i = .setMains .bLink addr [st, a, b, c, d] ∧ s.ready .bLink addr = true ∧
        s.mains.sample = false ∧ settings.style ≠ s.settings.style ∧ time = s.time ∧
        settings = { s.settings with
          style := if st = 0 then .edge else .level
          tq := (max 500 (min 10000 (le16 a b)) + 99) / 100 * 100
          tr := max 10 (min 600 (le16 c d)) }) →
    ∃ t, exec i s = .next t ∧
      t.mains = { s.mains with mode := .outage, sample := false, qual := .none, count := 0 } ∧
      t.time = time ∧ t.account = s.account ∧ t.settings = settings ∧ t.slots = s.slots ∧
      (∀ e ∈ t.lsu.queue, e.kind ≠ .release) ∧ (∀ p, (t.port p).release = false) ∧
      (∀ p, (s.port p).prov.enabled = true → (s.port p).feed ≠ .lockedOut →
        t.budget.result.classes[p] ≠ .none ∧ (t.port p).feed = t.budget.result.classes[p].feed) ∧
      (∀ p, (s.port p).prov.enabled = true → (s.port p).feed = .off → (t.port p).terminal = .unknown) ∧
      (∀ p, (s.port p).feed.fed = true → (t.port p).terminal = (s.port p).terminal) ∧
      (∀ p, (t.port p).faultCount = (s.port p).faultCount ∧ (t.port p).lineErr = (s.port p).lineErr) ∧
      t.budget.result.passCount = s.budget.result.passCount + 1 ∧ t.budget.result.causes &&& 0x04 = 0x04

/-- RESTORE_TIMER_EXPIRY in RESTORING ends the tests, the wakes and every entry but RELEASE, takes SHED, FAULT and TESTING
ports to OFF and queues a release for each fed port, or passes to STANDBY when none is fed (R11); in DEPLETED it passes to
STANDBY with OUTAGE_END (R14). The premise on RELEASE entries, which stand in RELEASING alone, is an invariant
(QueueStaysDistinct). That the row has its effect at every count, since it carries the time on until the count has reached
T_r (log 2), and that an expiry that does not arise changes nothing (log 8), are the model's choice. -/
def Obligations.RestoreTimer : Prop :=
  ∀ s : State, s.isRunning = true → s.settings.style = .edge → s.mains.qual = .restore → s.ReleasesLegal →
    (s.mode = .restoring → ∃ t, exec .restoreTimerExpiry s = .next t ∧
      t.mains =
        { s.mains with mode := (if s.noneFed then .standby else .releasing), qual := .none, count := 0 } ∧
      (∀ p, (t.port p).feed =
        match (s.port p).feed with
        | .trickle => .trickle
        | .full => .full
        | .lockedOut => .lockedOut
        | .off | .shed | .testing | .fault => .off) ∧
      (∀ p, (s.port p).feed.fed = true →
        (t.port p).release = true ∧
        ∃ e, t.entry? p .release .other = some e ∧ e.origin = .release ∧ e.attempts = 2 ∧ e.enqueued = t.now) ∧
      (∀ p, (t.port p).wake = none) ∧ t.wakes = { parked := [], settling := [] } ∧
      (∀ e ∈ t.lsu.queue, e.kind = .release) ∧ t.tests.queue = [] ∧ t.tests.contexts = [] ∧
      t.tests.survey ≠ .waiting ∧ t.budget.work = none ∧ t.budget.result = s.budget.result ∧ t.bank.scanPos = none ∧
      t.account = s.account ∧ t.settings = s.settings ∧ t.slots = s.slots) ∧
    (s.mode = .depleted → ∃ t, exec .restoreTimerExpiry s = .next t ∧
      t.mains = { s.mains with mode := .standby, qual := .none, count := 0 } ∧
      (∀ l, (t.link l).notices.getLsbD 1 = true) ∧ t.bank = { s.bank with cutoffRun := 0 } ∧
      (∀ p, (t.port p).feed = (s.port p).feed) ∧ t.account = s.account ∧ t.settings = s.settings ∧ t.slots = s.slots) ∧
    (∀ u : State, u.isRunning = true → ¬ (u.settings.style = .edge ∧ u.mains.qual = .restore) →
      exec .restoreTimerExpiry u = .next u)

/-! ### Time, measurement and the account (chapter 2) -/

/-- SECOND_TICK comes 1 s after the one before, counts the outage clock in OUTAGE, RESTORING, RELEASING and DEPLETED, and
starts a scan with its account mark; the rest of the steady state is unchanged (R1, R2, R19). The 1 s ticks run on when the
tick count has saturated. The 100 ms samples of the time pass unused in EDGE style and stay due in LEVEL style (R3, log 2).
That the row carries the tick count to its time (log 2), and that one that comes before a scan has
ended starts the scan anew (log 18), are the model's choice.

A WAITING survey that falls due is DONE and, if the survey is enabled, queues every enabled port of grade UNKNOWN that has
no test and does not stand in the queue, in port order after those that do (R124). The start walk then takes the startable
ports in queue order up to the concurrency limit, each with a context in PRE-QUERY and its BATTERY-QUERY, and passes over
the others, which keep their places; it starts none outside OUTAGE or while the ring refuses new starts (R125, R127). That
the walk is made at every second tick, not only when the survey adds entries, is the model's choice (log 28), and that it
passes over a port whose test runs is its reading (log 27). -/
def Obligations.SecondTick : Prop :=
  (∀ (s : State) (queued started : List (Port × TestOrigin)) (room : Nat), s.isRunning = true →
    (s.tests.queue.map fun e => e.1).Nodup → s.lsu.queue.length + s.settings.testLimit ≤ 48 →
    room = (if s.mode = .outage ∧ s.ring.refusal = false then s.settings.testLimit - s.tests.contexts.length else 0) →
    queued = s.tests.queue ++
      (if s.tests.survey = .waiting ∧ s.mode.runsPasses = true ∧ s.settings.surveyOn = true ∧
          s.settings.surveyDelay ≤ min (s.time.clock + 1) 4294967295 then
        (allPorts.filter fun p => decide ((s.port p).prov.enabled = true ∧ (s.port p).battery = .unknown ∧
          s.testOf p = none ∧ ∀ e ∈ s.tests.queue, e.1 ≠ p)).map fun p => (p, .survey)
      else []) →
    started = (queued.filter fun e => decide ((s.port e.1).prov.enabled = true ∧ (s.port e.1).feed.fed = true ∧
      (s.port e.1).lineErr < 160 ∧ (s.port e.1).terminal ≠ .absent ∧ s.testOf e.1 = none)).take room →
    ∃ t, exec .secondTick s = .next t ∧ t.tests.queue = queued.filter (fun e => decide (e ∉ started)) ∧
      t.tests.contexts = s.tests.contexts ++ started.map (fun e =>
        { port := e.1, origin := e.2, stage := .preQuery, start := t.time.clock, v0 := none, v1 := none, entered := none,
          dwellEnd := none }) ∧
      (∀ e ∈ started, (t.entry? e.1 .batteryQuery .test).isSome = true) ∧ t.ring = s.ring) ∧
  (∀ (s : State) (wait : Nat), s.isRunning = true → wait = 1000 - s.time.sinceSecond →
    ∃ t, exec .secondTick s = .next t ∧
      t.time =
        { s.time with
          tick := min (s.time.tick + wait) 18446744073709551615
          sinceSecond := s.time.sinceSecond + wait - 1000
          lastLevel := if s.settings.style = .edge then min (s.time.tick + wait) 18446744073709551615 / 100 * 100
            else s.time.lastLevel
          clock := if s.mode = .standby ∨ s.mode = .qualifying then s.time.clock
            else min (s.time.clock + 1) 4294967295 } ∧
      t.bank = { s.bank with
        scanPos := some 1
        accountMark := decide (s.mode = .outage ∨ s.mode = .restoring ∨ s.mode = .releasing) } ∧
      t.mode = s.mode ∧ t.account = s.account ∧ t.settings = s.settings ∧ t.slots = s.slots ∧
      (∀ p, (t.port p).feed = (s.port p).feed ∧ (t.port p).prov = (s.port p).prov ∧
        (t.port p).terminal = (s.port p).terminal) ∧
      t.steady = ({ s with time := t.time, bank := t.bank } : State).steady ∧
      (t.tests.survey = if s.tests.survey = .waiting ∧ s.mode.runsPasses = true ∧
        s.settings.surveyDelay ≤ t.time.clock then .done else s.tests.survey))

/-- The debit as the manual gives it: the bank first, then the building's draw and its average, then the reserve, each
whole account unit taken off while the residue is at least 3,600 and the quantity above 0 (R31 to R33). -/
def Obligations.DebitFollowsTheLoops : Prop :=
  ∀ (a : Account) (m : MeasSet) (bNow : Nat) (bank reserve : Nat × Nat),
    (bNow : Int) = max 0 ((m.bankPower : Int) - (m.sumPower : Int) - 180) →
    bank = settled (drain (a.resBank + m.bankPower) a.eBank) →
    reserve = settled (drain (a.resBldg + bNow) a.rLeft) →
    (a.debit m).resBank = bank.1 ∧ (a.debit m).eBank = bank.2 ∧ (a.debit m).resBldg = reserve.1 ∧
      (a.debit m).rLeft = min reserve.2 bank.2 ∧ (a.debit m).bAvgStarted = true ∧ (a.debit m).breach = a.breach ∧
      ((a.debit m).bAvg : Int) =
        if a.bAvgStarted then
          (if a.bAvg ≤ bNow then (a.bAvg : Int) + (((bNow - a.bAvg) / 8 : Nat) : Int)
            else (a.bAvg : Int) - (((a.bAvg - bNow) / 8 : Nat) : Int))
        else bNow

/-- The powers of a set, by multiplication with the product rounded to the nearest cW, a current into the bank counted as 0
(R22).

A conversion gives a whole multiple of its step within its range, the nearest end for an input beyond it, and an input
that is a multiple within the range as it is (R18). -/
def Obligations.MeasuredValues : Prop :=
  (∀ (m : MeasSet) (p : Port),
     (m.portPower p * 10000 ≤ m.vFeed * m.iPort[p] + 5000 ∧ m.vFeed * m.iPort[p] + 5000 < (m.portPower p + 1) * 10000) ∧
     (0 ≤ m.iBank → (m.bankPower : Int) * 10000 ≤ (m.vBank : Int) * m.iBank + 5000 ∧
       (m.vBank : Int) * m.iBank + 5000 < ((m.bankPower : Int) + 1) * 10000) ∧
     (m.iBank < 0 → m.bankPower = 0) ∧
     (m.vFeed ≤ 65520 → m.iPort[p] ≤ 4095 → m.portPower p ≤ 26830) ∧
     (m.vBank ≤ 65520 → m.iBank ≤ 51175 → m.bankPower ≤ 335299)) ∧
  (∀ (ch : Nat) (x : Int) (p : Port),
     (∃ k, k ≤ 4095 ∧ convertVoltage ch x = 16 * k) ∧ (x ≤ 0 → convertVoltage ch x = 0) ∧
     (65520 ≤ x → convertVoltage ch x = 65520) ∧
     (∀ k : Nat, k ≤ 4095 → convertVoltage ch (16 * (k : Int)) = 16 * k) ∧
     (∃ k : Int, -2048 ≤ k ∧ k ≤ 2047 ∧ convertBankCurrent x = 25 * k) ∧
     (x ≤ -51200 → convertBankCurrent x = -51200) ∧ (51175 ≤ x → convertBankCurrent x = 51175) ∧
     (∀ k : Int, -2048 ≤ k → k ≤ 2047 → convertBankCurrent (25 * k) = 25 * k) ∧
     (x ≤ 0 → convertPortCurrent p x = 0) ∧ (4095 ≤ x → convertPortCurrent p x = 4095) ∧
     (∀ k : Nat, k ≤ 4095 → convertPortCurrent p (k : Int) = k))

/-- The state of charge: the first point's below the table, the last point's at and above its end, and in the one interval
that holds the voltage the interpolation rounded down (R29). -/
def Obligations.StateOfCharge : Prop :=
  ∀ (t : Vector OcvPoint 9) (v : Nat), ocvValid t = true →
    (v < t[0].v → soc t v = t[0].s) ∧ (t[8].v ≤ v → soc t v = t[8].s) ∧
    (∀ i : Fin 8, t[i.val].v ≤ v → v < t[i.val + 1].v →
      soc t v = t[i.val].s + (v - t[i.val].v) * (t[i.val + 1].s - t[i.val].s) / (t[i.val + 1].v - t[i.val].v)) ∧
    soc t v ≤ 1000

/-- SCAN_COMPLETE replaces the set as a whole and counts the scan. A scan that is not debited leaves the account and the
cutoff count; a debited one is tested for cutoff and then debited, with RESERVE_BREACH when the building draws with no
reserve left, and with a pass of kind SCAN in OUTAGE and RESTORING; the third below V_cut makes the mode DEPLETED with the
account at 0 and every port OFF but the LOCKED_OUT (R13, R19, R23, R24, R33). An outage whose qualification is held starts on
the new set (R8). That the pass of kind SCAN is requested before those of a fault of the same set, which section 4.11 leaves
open, is the model's choice (log 6), and so is that the row changes nothing without a scan in progress (log 8).

The ports are judged: a port in FULL above one and a half times its full draw counts, and faults with OVERDRAW at the fifth
scan (R70, R71); a fed port below 5 mA counts up to 10 and is ABSENT at 10, again where a later write has changed the state
(R74, log 31), and at 5 mA or more an ABSENT one recovers to UNKNOWN with an AUTO POLL, an automatic wake and a pass of kind
DEMAND (R75, R117); every other port's counts are 0. -/
def Obligations.ScanComplete : Prop :=
  (∀ (s : State) (m : Readings) (d : Bool) (run : Nat), s.isRunning = true →
    (s.bank.scanPos = none → exec (.scanComplete m) s = .next s) ∧
    (s.bank.scanPos ≠ none →
      d = (s.bank.accountMark && decide (s.mode = .outage ∨ s.mode = .restoring ∨ s.mode = .releasing)) →
      run = (if (convertAll m).vBank < s.settings.vCut then s.bank.cutoffRun + 1 else 0) → s.qualHeld = false →
      ∃ t, exec (.scanComplete m) s = .next t ∧ t.bank.last = convertAll m ∧ t.bank.valid = true ∧
        t.bank.scanCount = s.bank.scanCount + 1 ∧ t.bank.scanPos = none ∧ t.settings = s.settings ∧ t.slots = s.slots ∧
        t.time = s.time ∧ t.mains.outageNumber = s.mains.outageNumber ∧
        (∀ p, (t.port p).prov = (s.port p).prov ∧
          (t.port p).trickleLimit = (s.port p).prov.dt * 10000 /
            (if (convertAll m).vFeed < 10000 then 48000 else (convertAll m).vFeed)) ∧
        (d = false → t.account = s.account ∧ (t.mode = s.mode ∧ t.bank.cutoffRun = s.bank.cutoffRun ∨
          s.mode = .releasing ∧ t.mode = .standby ∧ t.bank.cutoffRun = 0)) ∧
        (d = true → run < 3 →
          t.account =
            { s.account.debit (convertAll m) with
              breach := s.account.breach ||
                decide ((s.account.debit (convertAll m)).rLeft = 0 ∧ 0 < buildingDraw (convertAll m)) } ∧
          (t.mode = s.mode ∧ t.bank.cutoffRun = run ∨
            s.mode = .releasing ∧ t.mode = .standby ∧ t.bank.cutoffRun = 0) ∧
          ((s.account.debit (convertAll m)).rLeft = 0 → 0 < buildingDraw (convertAll m) → s.account.breach = false →
            ∀ l, (t.link l).notices.getLsbD 10 = true) ∧
          (s.mode.runsPasses = true → t.asked s 0x01)) ∧
        (d = true → 3 ≤ run →
          t.mode = .depleted ∧ t.account = { s.account with eBank := 0, rLeft := 0 } ∧ t.bank.cutoffRun = 0 ∧
          (∀ p, (t.port p).feed = (if (s.port p).feed = .lockedOut then .lockedOut else .off) ∧
            (t.port p).wake = none ∧ (t.port p).release = false) ∧
          t.lsu.queue = [] ∧ t.tests.queue = [] ∧ t.tests.contexts = [] ∧
          t.wakes = { parked := [], settling := [] } ∧ (∀ l, (t.link l).notices.getLsbD 2 = true) ∧
          (s.mode = .restoring → t.mains.qual = s.mains.qual ∧ t.mains.count = s.mains.count) ∧
          (s.mode ≠ .restoring → s.mains.sample = true →
            t.mains.qual = .restore ∧ t.mains.count = zeroCount s.settings.style) ∧
          (s.mode ≠ .restoring → s.mains.sample = false → t.mains.qual = .none ∧ t.mains.count = 0))) ∧
    (s.bank.scanPos ≠ none → s.qualHeld = true →
      ∃ t, exec (.scanComplete m) s = .next t ∧ t.bank.last = convertAll m ∧ t.bank.valid = true ∧
        t.mains =
          { s.mains with mode := .outage, qual := .none, count := 0, outageNumber := s.mains.outageNumber + 1 } ∧
        t.time = { s.time with clock := 0 } ∧ t.settings = s.settings ∧
        t.account.eBank = s.settings.cap * soc s.settings.ocv (convertAll m).vBank / 1000 ∧
        t.account.rLeft = min s.settings.rB t.account.eBank ∧ ∀ l, (t.link l).notices.getLsbD 0 = true)) ∧
  (∀ (s t : State) (m : Readings) (p : Port) (above : Bool) (n mA : Nat), s.isRunning = true → s.bank.scanPos ≠ none →
    s.qualHeld = false → s.mode.runsPasses = true ∨ s.mode = .releasing → (convertAll m).vBank ≥ s.settings.vCut →
    exec (.scanComplete m) s = .next t → mA = (convertAll m).iPort[p] → n = min ((s.port p).noLoadRun + 1) 10 →
    above = decide ((s.port p).feed = .full ∧ 3 * (s.port p).prov.df < 2 * (convertAll m).portPower p) →
    (above = false → (t.port p).overdrawRun = 0 ∧ (t.port p).faultCount = (s.port p).faultCount ∧
      (t.port p).feed = (s.port p).feed) ∧
    (above = true → (s.port p).overdrawRun < 4 → (t.port p).overdrawRun = (s.port p).overdrawRun + 1 ∧
      (t.port p).faultCount = (s.port p).faultCount ∧ (t.port p).feed = .full) ∧
    (above = true → 4 ≤ (s.port p).overdrawRun → (t.port p).overdrawRun = 0 ∧ (t.port p).noLoadRun = 0 ∧
      (t.port p).faultCount = min ((s.port p).faultCount + 1) 3 ∧ (t.port p).faultCause = some .overdraw ∧
      (t.port p).terminal = .unknown ∧ (∀ l, (t.link l).notices.getLsbD 4 = true) ∧
      (s.mode.runsPasses = true → t.askedSince s 0x10 ∧
        (t.port p).feed = if 2 ≤ (s.port p).faultCount then .lockedOut else .fault) ∧
      (s.mode = .releasing → (t.port p).release = false ∧
        (t.port p).feed = if 2 ≤ (s.port p).faultCount then .lockedOut else .off)) ∧
    ((s.port p).feed.fed = false → (t.port p).noLoadRun = 0 ∧ (t.port p).terminal = (s.port p).terminal) ∧
    ((s.port p).feed.fed = true → above = false ∨ (s.port p).overdrawRun < 4 →
      (mA < 5 → (t.port p).noLoadRun = n ∧
        (t.port p).terminal = (if n = 10 then .absent else (s.port p).terminal) ∧
        (n = 10 → (s.port p).terminal ≠ .absent → s.mode.runsPasses = true → t.askedSince s 0x20)) ∧
      (5 ≤ mA → (t.port p).noLoadRun = 0 ∧
        ((s.port p).terminal ≠ .absent → (t.port p).terminal = (s.port p).terminal) ∧
        ((s.port p).terminal = .absent → s.mode = .releasing → (t.port p).terminal = .unknown) ∧
        ((s.port p).terminal = .absent → s.mode.runsPasses = true → (t.port p).terminal = .unknown ∧ t.askedSince s 0x20 ∧
          ((t.entry? p .poll .other).isSome = true ∨ ∀ l, (t.link l).notices.getLsbD 12 = true) ∧
          ((s.port p).prov.enabled = true → (s.port p).feed = .trickle →
            ∃ g, (t.port p).wake = some ⟨g, s.now + s.settings.wakeTimeout * 1000⟩ ∧
              ((s.port p).wake = none → g = .parked ∧ p ∈ t.wakes.parked))))))

/-! ### The feed budget (chapter 3) -/

/-- The allowance of a pass: horizon, pool, overhang, the allowance before the caps, and P_avail (R43 to R45). -/
def Obligations.Allowance : Prop :=
  ∀ (i : PassInput) (n : Int), n = (i.pool : Int) * 3600 - (i.overhang : Int) →
    (i.remS : Int) = max ((i.tHold : Int) * 60 - (i.clock : Int)) 900 ∧
    (i.pool : Int) = max 0 ((i.eBank : Int) - (i.rLeft : Int)) ∧
    (i.overhang : Int) = max 0 ((i.bAvg : Int) * (i.remS : Int) - (i.rLeft : Int) * 3600) ∧
    (0 ≤ n → (i.raw + 180) * (i.remS : Int) ≤ n ∧ n < (i.raw + 181) * (i.remS : Int)) ∧ (n < 0 → i.raw = -180) ∧
    (i.pAvail : Int) = max 0 (min i.raw (min (i.pCeil : Int) 9600))

/-- The order and the walks of a pass. The admission order holds each candidate that is not capped once, sorted by the four
keys; the kept ports are a prefix of it whose trickle draws fit, and the next would not; the budgeted total is what the
classes cost and does not exceed P_avail; no SHED port precedes a kept one, and no held port precedes a FULL one (R49 to
R51).

The upgrade walk: a kept port whose demand is FULL is admitted if and only if it and every such port before it pass their
test, the baseline sum with the differences up to that port within P_avail for a port already in FULL and within
P_avail - M for any other; those not admitted are TRICKLE and held, and a kept port whose demand is TRICKLE is TRICKLE and
not held (R51). -/
def Obligations.PassLaw : Prop :=
  (∀ i : PassInput, (∀ p : Port, 10 ≤ i.ports[p].dt ∧ i.ports[p].dt ≤ i.ports[p].df) →
     (i.order.Nodup ∧
       (∀ p, p ∈ i.order ↔ i.ports[p].candidate = true ∧ (i.ports[p].grade ≤ i.gCap ∨ i.ports[p].terminal = .call)) ∧
       i.order.Pairwise fun p q =>
         (i.ports[p].terminal = .call ∧ i.ports[q].terminal ≠ .call) ∨
           ((i.ports[p].terminal = .call ↔ i.ports[q].terminal = .call) ∧
             (i.ports[p].grade < i.ports[q].grade ∨
               (i.ports[p].grade = i.ports[q].grade ∧
                 (i.ports[p].battery.rank < i.ports[q].battery.rank ∨
                   (i.ports[p].battery.rank = i.ports[q].battery.rank ∧ p < q)))))) ∧
     (∃ rest, i.order = i.baseline.1 ++ rest ∧ i.baseline.2 = (i.baseline.1.map fun p => i.ports[p].dt).sum ∧
       i.baseline.2 ≤ i.pAvail ∧ (∀ p, rest.head? = some p → i.pAvail < i.baseline.2 + i.ports[p].dt) ∧
       ∀ p ∈ rest, i.classOf p = .shed) ∧
     (i.upgrade.2 = (allPorts.map fun p =>
         match i.classOf p with
         | .full => i.ports[p].df
         | .trickle => i.ports[p].dt
         | .shed | .none => 0).sum ∧
       i.upgrade.2 ≤ i.pAvail) ∧
     (∀ p, i.classOf p = .none ↔ i.ports[p].candidate = false) ∧
     (∀ p, i.isCapped p = true → i.classOf p = .shed) ∧
     i.order.Pairwise fun p q =>
       (i.classOf p = .shed → i.classOf q = .shed) ∧ (i.heldOf p = true → i.classOf q ≠ .full)) ∧
  (∀ (i : PassInput) (p : Port) (upTo : Port → Nat), (∀ q : Port, 10 ≤ i.ports[q].dt ∧ i.ports[q].dt ≤ i.ports[q].df) →
     (∀ q, upTo q = i.baseline.2 + ((i.baseline.1.filter fun r => i.wantsFull r && decide (i.key r ≤ i.key q)).map
       fun r => i.ports[r].df - i.ports[r].dt).sum) →
     p ∈ i.baseline.1 →
     (i.wantsFull p = false → i.classOf p = .trickle ∧ i.heldOf p = false) ∧
     (i.wantsFull p = true →
       (i.classOf p = .full ∧ i.heldOf p = false ∨ i.classOf p = .trickle ∧ i.heldOf p = true) ∧
       (i.classOf p = .full ↔
         ∀ q ∈ i.baseline.1, i.wantsFull q = true → i.key q ≤ i.key p →
           (upTo q : Int) ≤ if i.ports[q].feed = .full then (i.pAvail : Int) else (i.pAvail : Int) - (i.margin : Int))))

/-- PASS_COMPLETE publishes the result of the pass in progress, its kinds, its figures, its order and what became of each
port, and sets each port that stayed a candidate to its class and held mark; every other port keeps its feed state (R37, R52,
R53). A marked port that it feeds loses its poll mark and is given an AUTO POLL (R63). The PARKED wakes of the ports in FULL
leave the wake list in its order and settle with a new expiry, and request a pass of kind DEMAND (R113). SHED_CHANGE is raised
if and only if a class differs; a pending pass begins at once with the kinds collected (R41, R42, R54). Without a pass in
progress it changes nothing (log 8). The class counts count the recorded classes (log 10). -/
def Obligations.PassComplete : Prop :=
  ∀ s : State, s.isRunning = true →
    (s.budget.work = none → exec .passComplete s = .next s) ∧
    (∀ w, s.budget.work = some w → s.mode.runsPasses = true → s.budget.requested = 0 →
      ∃ t, exec .passComplete s = .next t ∧ t.steady = s.steady ∧ t.mains = s.mains ∧ t.slots = s.slots ∧
        (t.budget.result.passCount = s.budget.result.passCount + 1 ∧ t.budget.result.causes = w.causes ∧
          t.budget.result.time = w.input.clock ∧ t.budget.result.remS = w.input.remS ∧
          t.budget.result.pool = w.input.pool ∧ t.budget.result.overhang = w.input.overhang ∧
          t.budget.result.raw = w.input.raw ∧ t.budget.result.pAvail = w.input.pAvail ∧
          t.budget.result.order = w.input.order ∧ t.budget.result.baseline = w.input.baseline.2 ∧
          t.budget.result.total = w.input.upgrade.2) ∧
        ((∀ p : Port, t.budget.result.capped.getLsbD p.val = w.input.isCapped p) ∧
          (∀ p : Port, t.budget.result.held[p] = (!w.departed.getLsbD p.val && w.input.heldOf p)) ∧
          t.budget.result.nShed = (allPorts.filter fun p => decide (t.budget.result.classes[p] = .shed)).length ∧
          t.budget.result.nTrickle = (allPorts.filter fun p => decide (t.budget.result.classes[p] = .trickle)).length ∧
          t.budget.result.nFull = (allPorts.filter fun p => decide (t.budget.result.classes[p] = .full)).length ∧
          t.budget.result.nHeld = (allPorts.filter fun p => t.budget.result.held[p]).length ∧
          t.budget.result.nCapped = (allPorts.filter w.input.isCapped).length) ∧
        (∀ p, (w.input.ports[p].candidate = false ∨ w.departed.getLsbD p.val = true) →
          t.budget.result.classes[p] = .none ∧ (t.port p).feed = (s.port p).feed ∧
            (t.port p).pollMark = (s.port p).pollMark) ∧
        (∀ p, w.input.ports[p].candidate = true → w.departed.getLsbD p.val = false →
          t.budget.result.classes[p] = w.input.classOf p ∧ (t.port p).feed = (w.input.classOf p).feed ∧
            (t.port p).held = w.input.heldOf p ∧
            (t.port p).pollMark = ((s.port p).pollMark && decide (w.input.classOf p = .shed)) ∧
            ((s.port p).pollMark = true → w.input.classOf p ≠ .shed →
              (t.entry? p .poll .other).isSome = true ∨ ∀ l, (t.link l).notices.getLsbD 12 = true)) ∧
        (∀ p, (t.port p).terminal = (s.port p).terminal) ∧
        (∃ before, t.wakes.settling =
          before ++ s.wakes.parked.filter fun p => decide (t.budget.result.classes[p] = .full)) ∧
        (∀ p ∈ s.wakes.parked,
          (t.budget.result.classes[p] = .full → p ∉ t.wakes.parked ∧
            (t.port p).wake = some ⟨.settling, s.now + s.settings.wakeTimeout * 1000⟩ ∧
            ∃ v, t.budget.work = some v ∧ v.causes &&& 0x20 = 0x20) ∧
          (t.budget.result.classes[p] ≠ .full → s.wakeOverdue p = false →
            p ∈ t.wakes.parked ∧ (t.port p).wake = (s.port p).wake ∨
              ∃ x, (s.port p).wake = some ⟨.settling, x⟩)) ∧
        ((∀ l, (s.link l).notices = 0) →
          ((∀ p : Port, t.budget.result.classes[p] = s.budget.result.classes[p]) ↔
            ∀ l, (t.link l).notices.getLsbD 3 = false)) ∧
        (s.budget.pendingPass = true → ∃ v, t.budget.work = some v ∧
          v.causes &&& s.budget.nextCauses = s.budget.nextCauses))

/-- The law of the fed ports: when a pass has been applied, what the ports in TRICKLE and FULL cost at the draws that the
pass read does not exceed its P_avail, and until the next pass is applied no step raises it (R52).

Every step keeps it. With the ports' charge at some draws within the P_avail of the result in force, a step that publishes no
pass leaves it within; a step that publishes one leaves the charge within the new P_avail at the draws that the pass read:
those of the pass in progress for PASS_COMPLETE, and for the pass of a mode transition those of the ports, as a RESTART's
reload leaves them and as they stood before any other step (R9, R12, R17, R41). -/
def Obligations.FedPortsFitTheAllowance : Prop :=
  (∀ (s : State) (w : PassWork), s.isRunning = true → s.PassLegal → s.budget.work = some w →
    ∃ t, exec .passComplete s = .next t ∧
      t.charge (fun p => w.input.ports[p].dt) (fun p => w.input.ports[p].df) ≤ t.budget.result.pAvail) ∧
  (∀ (s t : State) (dt df : Port → Nat), s.SettingsLegal → s.FeedLegal → s.PassLegal → (∀ p, dt p ≤ df p) →
    s.charge dt df ≤ s.budget.result.pAvail → step s = .next t →
    (t.budget.result.passCount = s.budget.result.passCount → t.charge dt df ≤ t.budget.result.pAvail) ∧
    (t.budget.result.passCount ≠ s.budget.result.passCount →
      (∀ w, s.pending.head? = some .passComplete → s.budget.work = some w →
        t.charge (fun p => w.input.ports[p].dt) (fun p => w.input.ports[p].df) ≤ t.budget.result.pAvail) ∧
      ((∃ l a ps, s.pending.head? = some (.restart l a ps)) →
        t.charge (fun p => (t.port p).prov.dt) (fun p => (t.port p).prov.df) ≤ t.budget.result.pAvail) ∧
      (s.pending.head? ≠ some .passComplete → (∀ l a ps, s.pending.head? ≠ some (.restart l a ps)) →
        t.charge (fun p => (s.port p).prov.dt) (fun p => (s.port p).prov.df) ≤ t.budget.result.pAvail)))

/-! ### Ports, wakes and tests over time (chapters 4, 6 and 7) -/

/-- TRIP fires in FULL above 1,500 mA and in TRICKLE, once that has stood for 100 ms, when the last 100 ms show the stage at
its trickle limit with the pair below 20,000 mV throughout, and nowhere else; the time in TRICKLE runs from each entry into
it (R69). That the row gives one reading each ms, judged by the limit that stands, is the model's choice (log 14).

The stage is off, and the fault counts; in OUTAGE and RESTORING the port enters FAULT with a 30 s retry wait, or LOCKED_OUT
at the third; in RELEASING it goes OFF or LOCKED_OUT with its release ended; PORT_FAULT is raised and the terminal is
UNKNOWN (R69, R71). That the poll mark is set in LOCKED_OUT too (log 22) and that a trip which does not fire changes nothing
(log 8) are the model's choice. -/
def Obligations.Trip : Prop :=
  (∀ (s : State) (p : Port) (f : FeedState), (s.port p).feed ≠ f →
    ((s.setFeed p f).port p).trickleSince = if f = .trickle then some s.now else none) ∧
  (∀ (s : State) (p : Port) (ma : Nat) (given : List PairReading) (fires : Bool), s.isRunning = true →
    (fires = true ↔ (s.port p).feed = .full ∧ 1500 < ma ∨
      (s.port p).feed = .trickle ∧ (∃ since, (s.port p).trickleSince = some since ∧ since + 100 ≤ s.now) ∧
        ∃ before last, given = before ++ last ∧ last.length = 100 ∧
          ∀ x ∈ last, (s.port p).trickleLimit ≤ x.current ∧ x.voltage < 20000) →
    (fires = false → exec (.trip p ma given) s = .next s) ∧
    (fires = true → s.budget.requested = 0 → ∃ t, exec (.trip p ma given) s = .next t ∧ t.steady = s.steady ∧
      t.stage p = .off ∧
      (t.port p).faultCount = min ((s.port p).faultCount + 1) 3 ∧ (t.port p).faultCause = some .short ∧
      (t.port p).terminal = .unknown ∧ (t.port p).held = false ∧ (t.port p).overdrawRun = 0 ∧
      (t.port p).noLoadRun = 0 ∧ t.serving p = false ∧ t.slots = s.slots ∧
      (∀ l, (t.link l).notices.getLsbD 4 = true) ∧
      (∀ q, q ≠ p → (t.port q).feed = (s.port q).feed ∧ (t.port q).faultCount = (s.port q).faultCount ∧
        (t.port q).terminal = (s.port q).terminal) ∧
      (s.mode.runsPasses = true → t.mains = s.mains ∧ t.asked s 0x10 ∧ (t.port p).pollMark = true ∧
        ((s.port p).faultCount < 2 → (t.port p).feed = .fault ∧ (t.port p).retryAt = some (s.now + 30000)) ∧
        (2 ≤ (s.port p).faultCount → (t.port p).feed = .lockedOut ∧ (t.port p).retryAt = none)) ∧
      (s.mode.runsPasses = false →
        (t.port p).feed = (if 2 ≤ (s.port p).faultCount then .lockedOut else .off) ∧ (t.port p).release = false ∧
        t.entry? p .release .other = none) ∧
      (s.mode = .releasing → t.mode = if ∀ q, q ≠ p → (s.port q).feed.fed = false then .standby else .releasing)))

/-- RETRY_WAIT_END makes the FAULT port a candidate with a pass of kind FEED (R72); SETTLE_TIMER_EXPIRY settles a port in
FULL, and its SETTLING wake asks for its burst (R113). Each carries the tick count to its time (log 2), and changes nothing
where it does not arise (log 8). -/
def Obligations.PortTimers : Prop :=
  ∀ (s : State) (p : Port), s.isRunning = true → s.budget.requested = 0 →
    (∀ x, (s.port p).retryAt = some x → (s.port p).feed = .fault → s.mode.runsPasses = true →
      s.now ≤ x → x ≤ 18446744073709551615 →
      ∃ t, exec (.retryWaitEnd p) s = .next t ∧ t.now = x ∧ (t.port p).feed = .shed ∧ (t.port p).retryAt = none ∧
        (t.port p).pollMark = (s.port p).pollMark ∧ (t.port p).faultCount = (s.port p).faultCount ∧
        (t.port p).faultCause = (s.port p).faultCause ∧ t.asked s 0x10 ∧ t.slots = s.slots ∧
        t.account = s.account ∧ t.settings = s.settings ∧ t.mode = s.mode ∧
        ∀ q, q ≠ p → (t.port q).feed = (s.port q).feed) ∧
    ((s.port p).retryAt = none ∨ (s.port p).feed ≠ .fault → exec (.retryWaitEnd p) s = .next s) ∧
    (∀ x, (s.port p).settle = .running x → (s.port p).feed = .full → s.now ≤ x → x ≤ 18446744073709551615 →
      ∃ t, exec (.settleTimerExpiry p) s = .next t ∧ t.now = x ∧ (t.port p).settle = .settled ∧
        (∀ q, (t.port q).feed = (s.port q).feed) ∧ t.slots = s.slots ∧ t.account = s.account ∧
        t.settings = s.settings ∧ t.mode = s.mode ∧
        ((s.port p).wake = none → (t.port p).wake = none ∧ t.wakes = s.wakes) ∧
        (∀ e, (s.port p).wake = some ⟨.settling, e⟩ → s.mode.runsPasses = true → s.lsu.queue.length < 48 →
          (t.port p).wake = some ⟨.signalling, e⟩ ∧ (t.entry? p .wake .other).isSome = true ∧
          t.wakes = { s.wakes with settling := s.wakes.settling.filter fun q => decide (q ≠ p) })) ∧
    ((∀ x, (s.port p).settle ≠ .running x) ∨ (s.port p).feed ≠ .full → exec (.settleTimerExpiry p) s = .next s)

/-- WAKE_EXPIRY removes a wake that no lane holds, with WAKE_EXPIRED and a pass of kind DEMAND, and waits for the lane
otherwise (R114). DWELL_EXPIRY takes a test from DWELL to POST-QUERY with a BATTERY-QUERY of origin TEST (R129). Each carries
the tick count to its time (log 2), and changes nothing where it does not arise (log 8). -/
def Obligations.WakeAndDwellExpiry : Prop :=
  ∀ (s : State) (p : Port), s.isRunning = true → s.budget.requested = 0 →
    ((s.port p).wake = none → exec (.wakeExpiry p) s = .next s) ∧
    (∀ w, (s.port p).wake = some w →
      ((∃ e, s.entry? p .wake .other = some e ∧ e.inLane = true) → exec (.wakeExpiry p) s = .next s) ∧
      ((∀ e, s.entry? p .wake .other = some e → e.inLane = false) → s.now ≤ w.expiry →
        w.expiry ≤ 18446744073709551615 →
        ∃ t, exec (.wakeExpiry p) s = .next t ∧ t.now = w.expiry ∧ (t.port p).wake = none ∧
          t.entry? p .wake .other = none ∧ p ∉ t.wakes.parked ∧ p ∉ t.wakes.settling ∧
          (∀ l, (t.link l).notices.getLsbD 7 = true) ∧ (s.mode.runsPasses = true → t.asked s 0x20) ∧
          (∀ q, (t.port q).feed = (s.port q).feed ∧ (t.port q).terminal = (s.port q).terminal) ∧
          (∀ q, q ≠ p → (t.port q).wake = (s.port q).wake) ∧ t.account = s.account ∧ t.settings = s.settings ∧
          t.slots = s.slots ∧ t.mode = s.mode)) ∧
    (∀ c x, s.testOf p = some c → c.stage = .dwell → c.dwellEnd = some x → s.now ≤ x → x ≤ 18446744073709551615 →
      s.mode.runsPasses = true → s.lsu.queue.length < 48 → s.tests.queue = [] →
      ∃ t, exec (.dwellExpiry p) s = .next t ∧ t.now = x ∧ t.testOf p = some { c with stage := .postQuery } ∧
        (t.entry? p .batteryQuery .test).isSome = true ∧ (∀ q, q ≠ p → t.testOf q = s.testOf q) ∧
        (∀ q, (t.port q).feed = (s.port q).feed ∧ (t.port q).battery = (s.port q).battery) ∧
        t.account = s.account ∧ t.settings = s.settings ∧ t.slots = s.slots ∧ t.ring = s.ring ∧ t.mode = s.mode) ∧
    ((∀ c, s.testOf p = some c → c.stage ≠ .dwell) → exec (.dwellExpiry p) s = .next s)

/-! ### Line signalling (chapter 5) -/

/-- A reply that a terminal sends with nominal widths, after a low level of any length but one sample (which has no run to
join, log 11), is taken whole: its twenty bits judge as the reply sent, an ACK with the value 0, and with any one bit of the
check changed it fails (R88 to R91).

A burst is the eight symbols of its request code, each a dip of 2 or 5 ms to half the pair's normal level and a gap of 3 ms,
52 ms in all; the bursts of a transaction stand 20 ms apart; the pair dips while its lane is BURSTING and at no other time,
from the feed's level or the 15,000 mV of TESTING (R86, R87, R101). The stage is limited to the trickle limit in TRICKLE, on
in FULL, a sense bias of 15,000 mV through 30 mA in TESTING, and off otherwise (R60). -/
def Obligations.RepliesRoundTrip : Prop :=
  (∀ (k : ReplyKind) (v lead : Nat), v < 4096 →
    (lead ≠ 1 →
      decodeSamples (List.replicate lead false ++ replySamples (replyBits k v)) = .reply (replyBits k v)) ∧
    judgeReply (replyBits k v) = some ⟨k, if k = .ack then 0 else v⟩ ∧
    (∀ n, 16 ≤ n → n < 20 → ∀ b, (replyBits k v)[n]? = some b → judgeReply ((replyBits k v).set n (!b)) = none)) ∧
  (burstSymbols .wake = [true, false, true, false, false, false, true, true] ∧
    burstSymbols .poll = [true, false, true, false, false, true, false, true] ∧
    burstSymbols .batteryQuery = [true, false, true, false, false, true, true, false] ∧
    burstSymbols .drawQuery = [true, false, true, false, true, false, false, true] ∧
    burstSymbols .testBegin = [true, false, true, false, true, false, true, false] ∧
    burstSymbols .release = [true, false, true, false, true, true, false, false]) ∧
  (∀ (k : RequestKind) (r j n : Nat), j < r →
    (burstWave k = (burstSymbols k).flatMap fun b => List.replicate (if b then 5 else 2) true ++ [false, false, false]) ∧
    (burstWave k).length = 52 ∧ (burstsWave k r).length = r * 52 + (r - 1) * 20 ∧
    burstsMs k r = r * 52 + (r - 1) * 20 ∧ (n < 52 → (burstsWave k r)[j * 72 + n]? = (burstWave k)[n]?) ∧
    (52 ≤ n → n < 72 → j + 1 < r → (burstsWave k r)[j * 72 + n]? = some false)) ∧
  (∀ (s : State) (p : Port) (feed level : Nat), s.isRunning = true → s.QueueLegal →
    level = (if (s.port p).feed = .testing then 15000 else if (s.port p).feed.fed then feed else 0) →
    s.stage p = (match (s.port p).feed with
      | .trickle => .limited (s.port p).trickleLimit
      | .full => .on
      | .testing => .senseBias 15000 30
      | .off | .shed | .fault | .lockedOut => .off) ∧
    (∀ i x, s.lane i = some x → x.port = p → x.stage = .bursting → (x.since ≤ s.now) →
      s.pairLevel p feed =
        if (burstsWave x.kind x.rEff)[s.now - x.since]? = some true then level / 2 else level) ∧
    ((∀ i x, s.lane i = some x → x.port = p → x.stage = .listening) → s.pairLevel p feed = level))

/-- The arbiter grants a FREE lane the eligible entry of the highest class, the oldest within it, with its in-lane mark set
and the repeat count fixed, and leaves a lane that is not FREE (R87, R100). An entry is eligible when its mark is clear, its
not-before time has come, its port can be signalled and is not MUTED, and no lane serves its port; the five classes are TEST
BATTERY-QUERY, WAKE, TEST-BEGIN, the other queries and polls, RELEASE; the lanes are granted in lane number order (R100). -/
def Obligations.ArbiterGrantsTheBest : Prop :=
  ∀ (s : State) (i : LaneId),
    (∀ e : Entry, s.eligible e = true ↔
      e.inLane = false ∧ e.notBefore ≤ s.now ∧
        ((s.port e.port).feed = .trickle ∨ (s.port e.port).feed = .full ∨ (s.port e.port).feed = .testing) ∧
        (s.port e.port).lineErr < 160 ∧ ∀ j x, s.lane j = some x → x.port ≠ e.port) ∧
    (∀ e : Entry,
      (e.kind = .batteryQuery → e.origin = .test → e.priority = 1) ∧ (e.kind = .wake → e.priority = 2) ∧
      (e.kind = .testBegin → e.priority = 3) ∧
      (e.kind = .poll ∨ e.kind = .drawQuery ∨ (e.kind = .batteryQuery ∧ e.origin ≠ .test) → e.priority = 4) ∧
      (e.kind = .release → e.priority = 5)) ∧
    (∃ a b c d, a = s.grantLane 0 ∧ b = a.grantLane 1 ∧ c = b.grantLane 2 ∧ d = c.grantLane 3 ∧
      s.arbitrate.lsu.lanes = d.lsu.lanes ∧ s.arbitrate.lsu.queue = d.lsu.queue) ∧
    (∀ x, s.lane i = some x → s.grantLane i = s) ∧
    (s.lane i = none → s.QueueLegal →
      ((∀ e ∈ s.lsu.queue, s.eligible e = false) → s.grantLane i = s) ∧
      (∀ before e after, s.lsu.queue = before ++ e :: after → s.eligible e = true →
        (∀ x ∈ before, s.eligible x = true → e.priority < x.priority) →
        (∀ x ∈ after, s.eligible x = true → e.priority ≤ x.priority) →
        (s.port e.port).feed.signallable = true ∧ (s.port e.port).lineErr < 160 ∧ s.serving e.port = false ∧
        (s.grantLane i).lane i = some
          { port := e.port, kind := e.kind, origin := e.origin,
            rEff := if (s.port e.port).lineErr < 64 then (s.port e.port).prov.rep.count
              else max (s.port e.port).prov.rep.count 8,
            stage := .bursting, since := s.now, decoder := .idle, samples := [], closed := false } ∧
        (∀ j, j ≠ i → (s.grantLane i).lane j = s.lane j) ∧
        (s.grantLane i).lsu.queue = before ++ { e with inLane := true } :: after))

/-- NOT_BEFORE_REACHED lets the arbiter act at the entry's not-before time (R100); ENTRY_EXPIRY removes an O-LINK entry with
SIGNAL_DROPPED at the O-link, an AUTO entry without a notice, and a RELEASE entry with its release (R98); BURSTS_END opens
the window (R101). Each carries the tick count to its time (log 2), and changes nothing where it does not arise (log 8). -/
def Obligations.QueueTimers : Prop :=
  ∀ (s : State) (p : Port) (k : RequestKind) (c : OriginClass) (i : LaneId), s.isRunning = true →
    (∀ e, s.entry? p k c = some e → e.inLane = false →
      exec (.notBeforeReached p k c) s = .next (s.advanceTo e.notBefore).arbitrate) ∧
    (∀ e, s.entry? p k c = some e → e.inLane = false → s.now ≤ e.enqueued + 30000 →
      e.enqueued + 30000 ≤ 18446744073709551615 → s.budget.requested = 0 → s.tests.queue = [] →
      (e.origin = .oLink → ∃ t, exec (.entryExpiry p k c) s = .next t ∧ t.now = e.enqueued + 30000 ∧
        t.entry? p k c = none ∧ t.oLink.notices.getLsbD 12 = true ∧ t.bLink = s.bLink ∧ t.ports = s.ports ∧
        t.tests = s.tests ∧ t.wakes = s.wakes ∧ t.slots = s.slots ∧ t.account = s.account ∧ t.settings = s.settings) ∧
      (e.origin = .auto → ∃ t, exec (.entryExpiry p k c) s = .next t ∧ t.now = e.enqueued + 30000 ∧
        t.entry? p k c = none ∧ t.oLink = s.oLink ∧ t.bLink = s.bLink ∧ t.ports = s.ports ∧ t.tests = s.tests ∧
        t.wakes = s.wakes ∧ t.slots = s.slots ∧ t.account = s.account ∧ t.settings = s.settings) ∧
      (e.origin = .release → ∃ t, exec (.entryExpiry p k c) s = .next t ∧ t.now = e.enqueued + 30000 ∧
        t.entry? p k c = none ∧ (t.port p).release = false ∧
        (t.port p).feed = (if (s.port p).feed.fed then .off else (s.port p).feed) ∧
        (∀ q, q ≠ p → t.port q = s.port q) ∧ t.tests = s.tests ∧ t.slots = s.slots ∧ t.account = s.account ∧
        t.settings = s.settings ∧
        (s.mode = .releasing → (s.port p).feed.fed = true →
          t.mode = if ∀ q, q ≠ p → (s.port q).feed.fed = false then .standby else .releasing)) ∧
      (e.origin = .wake ∨ e.origin = .test → exec (.entryExpiry p k c) s = .next s)) ∧
    (s.entry? p k c = none ∨ (∃ e, s.entry? p k c = some e ∧ e.inLane = true) →
      exec (.notBeforeReached p k c) s = .next s ∧ exec (.entryExpiry p k c) s = .next s) ∧
    (∀ x, s.lane i = some x → x.stage = .bursting →
      exec (.burstsEnd i) s =
        .next ((s.advanceTo (x.since + burstsMs x.kind x.rEff)).setLane i (some
          { x with
            stage := .listening, since := x.since + burstsMs x.kind x.rEff, decoder := .waitStart, samples := [],
            closed := false }))) ∧
    ((∀ x, s.lane i = some x → x.stage = .listening) → exec (.burstsEnd i) s = .next s)

/-- A transaction that is not orphaned ends (R102). A valid reply is handed on to the port record, the origin and the
Message Store. A reply of the expected kind takes 1 from the line error count and removes the entry; one of another kind
leaves the count and consumes an attempt; a failure adds 8, up to 160, and consumes one; a flag leaves the count and the
attempts and requests an AUTO POLL (R94). An entry with attempts left waits out its spacing in its place in the queue, which
changes nowhere else but for the WAKE entry of a wake that the reply ends, and on its last it is removed. At 160 the line is
MUTED (R105, R106). An orphaned transaction changes no count and hands on nothing (R104).

A wake ends in success with its reply, and in failure with WAKE_FAILED and UNKNOWN on its last attempt, each with a pass of
kind DEMAND; a STATUS of 1 or 2 in another transaction ends a wake that stood, before the origin is told (R115, log 32).

A release ends with its ACK, on its last attempt and with the mute of its line: the record goes, and a port in TRICKLE or
FULL goes OFF; the last of them gives STANDBY with OUTAGE_END, any other leaves RELEASING (R12, R67, R106, R119). A failed
attempt before the last leaves it pending.

A port that leaves the signallable states frees its lane, its entry keeps its place and its times (R103). -/
def Obligations.TransactionsEnd : Prop :=
  (∀ (s : State) (i : LaneId) (x : Transaction) (r : Reply), s.lane i = some x →
    (s.orphaned x = true → ∀ o, s.endTransaction i x o = s.setLane i none) ∧
    (s.orphaned x = false → s.QueueLegal →
      (∀ o, (s.endTransaction i x o).lane i = none) ∧
      (r.kind = expectedReply x.kind →
        ((s.endTransaction i x (.replied r)).port x.port).lineErr = (s.port x.port).lineErr - 1 ∧
        (s.endTransaction i x (.replied r)).entry? x.port x.kind x.origin.cls = none) ∧
      (r.kind ≠ expectedReply x.kind →
        ((s.endTransaction i x (.replied r)).port x.port).lineErr = (s.port x.port).lineErr) ∧
      ((s.endTransaction i x (.replied r)).slots = (s.deliver x.port r).slots ∧
        (r.kind = .battery → ((s.endTransaction i x (.replied r)).port x.port).lastMv = some (4 * r.value)) ∧
        (r.kind = .draw → (s.port x.port).prov.dt ≤ 2500 →
          ((s.endTransaction i x (.replied r)).port x.port).prov.df =
            max (s.port x.port).prov.dt (max 10 (min 2500 r.value))) ∧
        (r.kind = .status → r.kind = expectedReply x.kind ∨ x.origin = .oLink ∨ x.origin = .auto →
          ∀ g, (r.value = 0 ∧ g = .asleep) ∨ (r.value = 1 ∧ g = .awake) ∨ (r.value = 2 ∧ g = .call) →
            ((s.endTransaction i x (.replied r)).port x.port).terminal = g)) ∧
      ((s.endTransaction i x .flagged).port x.port).lineErr = (s.port x.port).lineErr ∧
      ((s.endTransaction i x .failed).port x.port).lineErr = min ((s.port x.port).lineErr + 8) 160 ∧
      (∀ e o, s.entry? x.port x.kind x.origin.cls = some e → 1 < e.attempts →
        (o = .failed ∧ (s.port x.port).lineErr + 8 < 160 ∨ ∃ q, o = .replied q ∧ q.kind ≠ expectedReply x.kind) →
        e.overdue s.now = false → ¬ (x.origin = .wake ∧ s.wakeOverdue x.port = true) →
        (s.endTransaction i x o).entry? x.port x.kind x.origin.cls = some
          { e with attempts := e.attempts - 1, inLane := false,
                   notBefore := s.now + if x.kind = .wake then 5000 else 1000 } ∧
        ∀ before after, s.lsu.queue = before ++ e :: after →
          (s.endTransaction i x o).lsu.queue =
            (before ++ { e with attempts := e.attempts - 1, inLane := false,
                                notBefore := s.now + if x.kind = .wake then 5000 else 1000 } :: after).filter fun y =>
              !(y.isFor x.port .wake .other && decide (x.kind ≠ .wake ∧ (s.port x.port).wake.isSome = true ∧
                (o = .replied ⟨.status, 1⟩ ∨ o = .replied ⟨.status, 2⟩)))) ∧
      (∀ e o, s.entry? x.port x.kind x.origin.cls = some e → e.attempts ≤ 1 →
        (o = .failed ∨ ∃ q, o = .replied q ∧ q.kind ≠ expectedReply x.kind) →
        (s.endTransaction i x o).entry? x.port x.kind x.origin.cls = none) ∧
      (∀ e, s.entry? x.port x.kind x.origin.cls = some e → e.overdue s.now = false →
        ¬ (x.origin = .wake ∧ s.wakeOverdue x.port = true) → s.mode.runsPasses = true →
        ((s.port x.port).feed ≠ .testing →
          (s.endTransaction i x .flagged).entry? x.port x.kind x.origin.cls = some
            { e with inLane := false, notBefore := s.now + if x.kind = .wake then 5000 else 1000 } ∧
          ∀ before after, s.lsu.queue = before ++ e :: after → ∃ new,
            (s.endTransaction i x .flagged).lsu.queue =
              (before ++ { e with inLane := false, notBefore := s.now + if x.kind = .wake then 5000 else 1000 } :: after) ++
                new ∧
            (new = [] ∨ new = [{ port := x.port, kind := .poll, origin := .auto, attempts := 2, enqueued := s.now,
                                 notBefore := s.now, inLane := false }])) ∧
        (((s.endTransaction i x .flagged).entry? x.port .poll .other).isSome = true ∨
          ∀ l, ((s.endTransaction i x .flagged).link l).notices.getLsbD 12 = true)) ∧
      (160 ≤ (s.port x.port).lineErr + 8 →
        (∀ e ∈ (s.endTransaction i x .failed).lsu.queue, e.port ≠ x.port) ∧
        ((s.endTransaction i x .failed).port x.port).terminal = .unknown ∧
        ((s.endTransaction i x .failed).port x.port).wake = none ∧
        (s.endTransaction i x .failed).testOf x.port = none ∧
        ∀ l, ((s.endTransaction i x .failed).link l).notices.getLsbD 5 = true) ∧
      (x.origin = .wake → s.mode.runsPasses = true → ∀ e o t, s.entry? x.port x.kind x.origin.cls = some e →
        t = s.endTransaction i x o →
        (o = .replied r → r.kind = expectedReply x.kind →
          (t.port x.port).wake = none ∧ x.port ∉ t.wakes.parked ∧ x.port ∉ t.wakes.settling ∧
          t.budget.requested &&& 0x20 = 0x20) ∧
        (o = .failed → e.attempts ≤ 1 → (s.port x.port).lineErr + 8 < 160 →
          (t.port x.port).wake = none ∧ (t.port x.port).terminal = .unknown ∧ t.budget.requested &&& 0x20 = 0x20 ∧
          ∀ l, (t.link l).notices.getLsbD 6 = true) ∧
        (o = .failed → 1 < e.attempts → (s.port x.port).lineErr + 8 < 160 → s.wakeOverdue x.port = false →
          e.overdue s.now = false → (t.port x.port).wake = (s.port x.port).wake)) ∧
      (x.kind ≠ .wake → x.origin ≠ .test → r.kind = .status → r.value = 1 ∨ r.value = 2 → (s.port x.port).wake.isSome = true →
        ((s.endTransaction i x (.replied r)).port x.port).wake = none ∧
        (s.endTransaction i x (.replied r)).entry? x.port .wake .other = none ∧
        (s.mode.runsPasses = true → (s.endTransaction i x (.replied r)).budget.requested &&& 0x20 = 0x20)) ∧
      (∀ e o t, s.FeedLegal → x.kind = .release → x.origin = .release → s.mode = .releasing →
        (s.port x.port).release = true → s.entry? x.port .release .other = some e → t = s.endTransaction i x o →
        (o = .replied r ∧ r.kind = .ack ∨ o = .failed ∧ 160 ≤ (s.port x.port).lineErr + 8 ∨
            e.attempts ≤ 1 ∧ (o = .failed ∨ ∃ q, o = .replied q ∧ q.kind ≠ .ack) →
          (t.port x.port).release = false ∧ t.entry? x.port .release .other = none ∧
          (∀ q, q ≠ x.port → (t.port q).feed = (s.port q).feed ∧ (t.port q).release = (s.port q).release) ∧
          ((s.port x.port).feed.fed = true → (t.port x.port).feed = .off ∧ (t.port x.port).held = false ∧
            (t.port x.port).overdrawRun = 0 ∧ (t.port x.port).noLoadRun = 0 ∧
            (if ∀ q, q ≠ x.port → (s.port q).feed.fed = false then
              t.mains = { s.mains with mode := .standby, qual := .none, count := 0 } ∧ t.bank.cutoffRun = 0 ∧
                t.bank.accountMark = false ∧ ∀ l, (t.link l).notices.getLsbD 1 = true
            else t.mains = s.mains ∧ t.bank = s.bank)) ∧
          ((s.port x.port).feed.fed = false → (t.port x.port).feed = (s.port x.port).feed ∧ t.mains = s.mains)) ∧
        (1 < e.attempts → o = .failed ∧ (s.port x.port).lineErr + 8 < 160 ∨ (∃ q, o = .replied q ∧ q.kind ≠ .ack) →
          e.overdue s.now = false →
          (t.port x.port).release = true ∧ (t.port x.port).feed = (s.port x.port).feed ∧ t.mains = s.mains)))) ∧
  (∀ (s : State) (i : LaneId) (x : Transaction) (f : FeedState), s.lane i = some x → s.QueueLegal →
    f.signallable = false → (s.port x.port).feed ≠ f →
    (s.setFeed x.port f).lane i = none ∧ (∀ j, j ≠ i → (s.setFeed x.port f).lane j = s.lane j) ∧
    (∀ q, ((s.setFeed x.port f).port q).lineErr = (s.port q).lineErr) ∧
    (∀ e, s.entry? x.port x.kind x.origin.cls = some e → e.overdue s.now = false → s.wakeOverdue x.port = false →
      (s.setFeed x.port f).entry? x.port x.kind x.origin.cls = some { e with inLane := false } ∧
      ∀ before after, s.lsu.queue = before ++ e :: after →
        (s.setFeed x.port f).lsu.queue = before ++ { e with inLane := false } :: after) ∧
    (s.entry? x.port x.kind x.origin.cls = none → (s.setFeed x.port f).lsu.queue = s.lsu.queue))

/-- A valid reply updates the port record by its kind: STATUS 0, 1 and 2 set the terminal state and clear the poll mark, 3
and above change nothing; BATTERY sets the last battery mV; DRAW sets d_f within d_t to 2,500 cW, and a changed d_f requests
a pass of kind SETTING in OUTAGE and RESTORING; ACK changes nothing (R77, R78). -/
def Obligations.RepliesUpdateThePort : Prop :=
  ∀ (s : State) (p : Port) (v : Nat),
    (∀ x, (v = 0 ∧ x = .asleep) ∨ (v = 1 ∧ x = .awake) ∨ (v = 2 ∧ x = .call) →
      (s.takeReply p ⟨.status, v⟩).port p =
        { s.port p with
          terminal := x, pollMark := false
          noLoadRun := if (s.port p).terminal = .absent then 0 else (s.port p).noLoadRun }) ∧
    (3 ≤ v → s.takeReply p ⟨.status, v⟩ = s) ∧
    (s.takeReply p ⟨.battery, v⟩ = s.modPort p fun r => { r with lastMv := some (4 * v) }) ∧
    ((s.port p).prov.dt ≤ 2500 →
      (s.takeReply p ⟨.draw, v⟩).port p =
        { s.port p with prov := { (s.port p).prov with df := max (s.port p).prov.dt (max 10 (min 2500 v)) } } ∧
      ((s.port p).prov.df ≠ max (s.port p).prov.dt (max 10 (min 2500 v)) → s.mode.runsPasses = true →
        (s.takeReply p ⟨.draw, v⟩).budget.requested &&& 0x40 = 0x40) ∧
      ((s.port p).prov.df = max (s.port p).prov.dt (max 10 (min 2500 v)) → s.takeReply p ⟨.draw, v⟩ = s)) ∧
    (s.takeReply p ⟨.ack, v⟩ = s) ∧
    (∀ k q, q ≠ p → (s.takeReply p ⟨k, v⟩).port q = s.port q)

/-- REPLY_DECODED, REPLY_SYMBOL_FAILURE, FLAG_IN_WINDOW and WINDOW_CLOSE each end the transaction of a listening lane with
the outcome that the decoder finds in its samples, high where the current stands 10 mA or more above the slow average, at
the time of the last of them (R88, R89, R91, R92, R94).

The window closes as NO_REPLY when the decoder waits with the level low; with a high run open, or in a reply, the lane
follows the reply past its window, with its samples kept, and ends on its outcome, or as NO_REPLY on the sample that makes a
glitch of a single high sample at the close (R92, log 35). Samples that show no reply end a lane by WINDOW_CLOSE alone: the
other rows do not arise on them and change nothing (log 8).

Window samples that are not given are low (log 14), and a row carries the tick count to its time (log 2). -/
def Obligations.ListeningEnds : Prop :=
  ∀ (s : State) (i : LaneId) (x : Transaction) (given : List PairSample) (all : List Bool), s.isRunning = true →
    s.lane i = some x → x.stage = .listening →
    all = x.samples ++ (given.map fun y => decide (y.average + 10 ≤ y.current)) →
    (noReply all = true ↔
      2000 ≤ all.length ∧ (decodeSamples (all.take 2000)).waitingLow = true ∨
        2001 ≤ all.length ∧ (decodeSamples (all.take 2001)).waitingLow = true) ∧
    (noReply all = true → exec (.replyDecoded i given) s = .next s ∧ exec (.replySymbolFailure i given) s = .next s ∧
      exec (.flagInWindow i given) s = .next s) ∧
    (noReply all = false →
      (∀ bits r, decodeSamples all = .reply bits → judgeReply bits = some r →
        exec (.replyDecoded i given) s =
          .next ((s.advanceTo (x.since + all.length / 4)).endTransaction i x (.replied r)).finish) ∧
      (∀ bits, decodeSamples all = .reply bits → judgeReply bits = none →
        exec (.replyDecoded i given) s =
          .next ((s.advanceTo (x.since + all.length / 4)).endTransaction i x .failed).finish) ∧
      (decodeSamples all = .symbol →
        exec (.replySymbolFailure i given) s =
          .next ((s.advanceTo (x.since + all.length / 4)).endTransaction i x .failed).finish) ∧
      (decodeSamples all = .flag →
        exec (.flagInWindow i given) s =
          .next ((s.advanceTo (x.since + all.length / 4)).endTransaction i x .flagged).finish)) ∧
    (∀ window d high, x.closed = false → window = (all ++ List.replicate (2000 - all.length) false).take 2000 →
      decodeSamples window = .open_ d high →
      exec (.windowClose i given) s =
        .next (if d.state = .waitStart ∧ high = false then
            ((s.advanceTo (x.since + 500)).endTransaction i x .failed).finish
          else (s.advanceTo (x.since + 500)).setLane i (some
            { x with samples := window, decoder := d.state, closed := true }))) ∧
    (x.closed = false → (∀ b ∈ all, b = false) →
      exec (.windowClose i given) s = .next ((s.advanceTo (x.since + 500)).endTransaction i x .failed).finish) ∧
    (∀ d high, x.closed = true → decodeSamples (all.take 2001) = .open_ d high →
      exec (.windowClose i given) s =
        .next (if d.state = .waitStart ∧ high = false then
            ((s.advanceTo (x.since + (all.take 2001).length / 4)).endTransaction i x .failed).finish
          else s))

/-- An armed flag detector that judges a flag, a high run of 160 to 320 units that began after its arming and has ended,
requests an AUTO POLL and tells the Test Engine, which aborts the test of a port in TESTING (R93, R135); this is said of the
states whose armed detectors are those that R93 arms, an invariant stated below. For a disarmed one, another width or a run
begun before the arming the row does not arise, and changes nothing (log 8): a detector takes samples by this row alone (log
17). The row carries the tick count to the last of its samples (log 2). A detector is armed, from the step that makes it so,
in OUTAGE and RESTORING on a port that can be signalled, is not MUTED and has no lane, and disarmed otherwise (R93). -/
def Obligations.TerminalFlag : Prop :=
  (∀ (s : State) (p : Port),
    (s.flagArmed p = true ↔ (s.mode = .outage ∨ s.mode = .restoring) ∧ (s.port p).feed.signallable = true ∧
      (s.port p).lineErr < 160 ∧ ∀ i x, s.lane i = some x → x.port ≠ p) ∧
    s.arbitrate.flag p =
      (if s.arbitrate.flagArmed p then if s.flag p = .disarmed then .armed s.now 0 [] else s.flag p else .disarmed)) ∧
  (∀ (s : State) (p : Port) (samples : List PairSample), s.isRunning = true → s.flag p = .disarmed →
    exec (.terminalFlag p samples) s = .next s) ∧
  (∀ (s : State) (p : Port) (samples : List PairSample) (since taken before low high n : Nat), s.isRunning = true →
    s.flag p = .armed since taken (List.replicate before false) → 2 ≤ before + low → 2 ≤ high →
    n = taken + samples.length →
    samples.map (fun y => decide (y.average + 10 ≤ y.current)) =
      List.replicate low false ++ List.replicate high true ++ [false, false] →
    (¬ (160 ≤ high ∧ high ≤ 320) → exec (.terminalFlag p samples) s = .next s) ∧
    (160 ≤ high → high ≤ 320 → s.DetectorsLegal →
      (s.entry? p .poll .other).isSome = true ∨ s.lsu.queue.length < 48 →
      ∃ t, exec (.terminalFlag p samples) s = .next t ∧ t.steady = (s.advanceTo (since + n / 4)).steady ∧
        (t.entry? p .poll .other).isSome = true ∧ t.mains = (s.advanceTo (since + n / 4)).mains ∧ t.slots = s.slots ∧
        (t.flag p = .armed since n [false, false] ∨ t.flag p = .disarmed) ∧
        ((s.port p).feed = .testing → (s.testOf p).isSome = true → s.tests.queue = [] →
          t.testOf p = none ∧ (t.port p).feed = .shed) ∧
        ((s.port p).feed ≠ .testing → (t.port p).feed = (s.port p).feed) ∧
        ∀ q, q ≠ p → (t.port q).feed = (s.port q).feed)) ∧
  (∀ (s : State) (p : Port) (samples : List PairSample) (since high : Nat), s.isRunning = true →
    s.flag p = .armed since 0 [] → 2 ≤ high →
    samples.map (fun y => decide (y.average + 10 ≤ y.current)) = List.replicate high true ++ [false, false] →
    exec (.terminalFlag p samples) s = .next s)

/-! ### Resets and supply (R15, R16, R188) -/

/-- POWER_ON_RESET gives every block its initial value, loads the image or the defaults, and takes the mode from MAINS_OK;
the image itself, the commands that wait and the strap value given are kept (R15, R189).

A hard reset turns every stage off, keeps LOCKED_OUT, and cuts off transactions, the scan, tests, the qualification, a
settings write and a reply; its end starts the part as after power-on but for the ring, the outage number, the battery
grades, voltages and test numbers and the LOCKED_OUT ports (R16). A loss of supply cuts a write off (R188).

The model's choice: POWER_ON_RESET in every phase, cutting a write off and keeping the queue of commands (log 24), every
other field kept by the loss of supply and while RESET is low (log 20), and the account mark clear after both resets, for
which R19 gives no value before the first scan (log 3). -/
def Obligations.Resets : Prop :=
  (∀ (s : State) (mainsOk : Bool) (straps : Fin 32) (image : Image) (d : ImageData),
     image = (if s.store.write.isSome then .incomplete else s.store.image) →
     d = (match image with
       | .written d crc => if crc = Config.imageCrc d.values then d else defaultImage
       | .blank | .incomplete => defaultImage) →
     ∃ t, exec (.powerOnReset mainsOk straps) s = .next t ∧ t.phase = .running ∧ t.lastReset = .powerOn ∧
       t.straps = straps ∧ t.time = State.reset.time ∧ t.bank = State.reset.bank ∧ t.account = State.reset.account ∧
       t.budget = State.reset.budget ∧ t.lsu = State.reset.lsu ∧ t.wakes = State.reset.wakes ∧
       t.tests = State.reset.tests ∧ t.ring = State.reset.ring ∧ t.slots = State.reset.slots ∧ t.staging = none ∧
       t.settings = d.settings ∧ t.pending = s.pending ∧
       t.store =
         { image := image, write := none,
           source := if image = .written d (Config.imageCrc d.values) then .image else .defaults } ∧
       t.mains =
         { mode := if mainsOk then .standby else .qualifying, sample := mainsOk,
           qual := if mainsOk then .none else .outage, count := if mainsOk then 0 else zeroCount d.settings.style,
           outageNumber := 0 } ∧
       (∀ p : Port, t.port p =
         { State.reset.port p with prov := d.ports[p], trickleLimit := d.ports[p].dt * 10000 / 48000 }) ∧
       ∀ l, (t.link l).cfg = (match l with
           | .oLink => d.oLink
           | .bLink => d.bLink) ∧
         (t.link l).notices = (if image = .written d (Config.imageCrc d.values) then 0
           else Notice.settingsDefaulted.bit) ∧
         (t.link l).inFlight = none ∧ (t.link l).sendFrom = none ∧
         (t.link l).silent = true ∧ (t.link l).frameErrors = 0 ∧ (t.link l).overruns = 0) ∧
  (∀ (s : State) (mainsOk : Bool) (straps : Fin 32),
     (s.isRunning = true → ∃ t, exec .hardReset s = .next t ∧ t.phase = .resetHeld ∧ (∀ p, t.stage p = .off) ∧
       (∀ i, t.lane i = none) ∧ (∀ p, t.flag p = .disarmed) ∧ t.bank.scanPos = none ∧ t.tests.contexts = [] ∧ t.mains.qual = .none ∧
       t.store.write = none ∧ t.store.image = (if s.store.write.isSome then .incomplete else s.store.image) ∧
       (∀ l, (t.link l).inFlight = none ∧ t.attnHigh l = true) ∧ t.ring = s.ring ∧
       (∀ p, (t.port p).feed = if (s.port p).feed = .lockedOut then .lockedOut else .off)) ∧
     (s.phase = .resetHeld → ∃ t u, exec (.hardResetEnd mainsOk straps) s = .next t ∧
       exec (.powerOnReset mainsOk straps) s = .next u ∧ t.lastReset = .hard ∧
       t.mains = { u.mains with outageNumber := s.mains.outageNumber } ∧ t.time = u.time ∧ t.bank = u.bank ∧
       t.account = u.account ∧ t.budget = u.budget ∧ t.lsu = u.lsu ∧ t.wakes = u.wakes ∧ t.tests = u.tests ∧
       t.slots = u.slots ∧ t.settings = u.settings ∧ t.store = u.store ∧ t.phase = .running ∧ t.straps = straps ∧
       t.ring = { records := s.ring.records, nextSeq := s.ring.nextSeq,
                  refusal := decide (u.settings.ringMode = .hold) && decide (64 ≤ s.ring.records.length) } ∧
       (∀ p, t.port p = { u.port p with
         feed := if (s.port p).feed = .lockedOut then .lockedOut else .off
         battery := (s.port p).battery, lastMv := (s.port p).lastMv, lastSeq := (s.port p).lastSeq
         faultCause := if (s.port p).feed = .lockedOut then (s.port p).faultCause else none }) ∧
       ∀ l, t.link l = { u.link l with cursor := (s.ring.records.head?).map fun r => r.seq }) ∧
     (∃ t, exec .lossOfSupply s = .next t ∧
       t = { s with
         phase := .off
         store := { s.store with
           image := if s.store.write.isSome then .incomplete else s.store.image
           write := none } }))

/-! ### What every step keeps -/

/-- The invariants hold after a power-on reset. -/
def Obligations.InvariantsHoldAtReset : Prop :=
  State.reset.SettingsLegal ∧ State.reset.AccountLegal ∧ State.reset.RingLegal ∧ State.reset.QueueLegal ∧
    State.reset.FeedLegal ∧ State.reset.PortsLegal ∧ State.reset.PassLegal ∧ State.reset.ReleasesLegal ∧
    State.reset.DetectorsLegal ∧ State.reset.LanesLegal ∧ State.reset.MarkLegal

/-- Every setting stays within its range, in use, in the image and in a write (section 11.4, R189).

With the settings in range, the account stays within 0 ≤ R_left ≤ E_bank ≤ C, with its residues and its average in range
(R26). -/
def Obligations.SettingsAndAccountStayInRange : Prop :=
  (∀ s t : State, s.SettingsLegal → step s = .next t → t.SettingsLegal) ∧
  (∀ s t : State, s.SettingsLegal → s.AccountLegal → step s = .next t → t.AccountLegal)

/-- The ring holds at most 64 records, numbered consecutively, and each cursor a record of it or "end" (R143, R145). -/
def Obligations.RingStaysConsecutive : Prop :=
  ∀ s t : State, s.RingLegal → step s = .next t → t.RingLegal

/-- The queue holds at most 48 entries, no two alike, and no two lanes serve one port (R95, R100).

RELEASE entries stand in RELEASING alone, each of origin RELEASE and for a fed port, and no qualification is in progress
there (R3, R48, R67).

A lane that follows a reply past its window holds no more samples than its time gives, four a ms (R90, R92).

A flag detector is armed in OUTAGE and RESTORING while its port is signallable, not MUTED and without a lane, and disarmed
otherwise (R93). -/
def Obligations.QueueStaysDistinct : Prop :=
  (∀ s t : State, s.QueueLegal → step s = .next t → t.QueueLegal) ∧
  (∀ s t : State, s.LanesLegal → step s = .next t → t.LanesLegal) ∧
  (∀ s t : State, s.FeedLegal → s.ReleasesLegal → step s = .next t → t.ReleasesLegal) ∧
  (∀ s t : State, s.DetectorsLegal → step s = .next t → t.DetectorsLegal)

/-- No port is fed or biased in STANDBY, QUALIFYING and DEPLETED, and none but TRICKLE and FULL in RELEASING; no pass runs
outside OUTAGE and RESTORING (R40, R61, R67).

A fed port is enabled and, while a pass is in progress, stands among the candidates that the pass read, and a candidate that
the pass read is one still or has been marked as one that left (R46, R52): what the law of the fed ports rests on.

A scan in progress carries an account mark in OUTAGE, RESTORING and RELEASING alone: one started in RELEASING loses it when
the mode becomes STANDBY, and so is never debited (R19). The account mark changes by a second tick, and the cutoff run count
by a scan; beside them the entry into STANDBY and the resets alone change either (R19, R25). -/
def Obligations.FeedFollowsTheModeAndThePass : Prop :=
  (∀ s t : State, s.FeedLegal → step s = .next t → t.FeedLegal) ∧
  (∀ s t : State, s.MarkLegal → step s = .next t → t.MarkLegal) ∧
  (∀ (i : Instr) (s t : State) (entry : Prop), exec i s = .next t →
    entry = ((s.mode ≠ .standby ∧ t.mode = .standby) ∨ (∃ m a, i = .powerOnReset m a) ∨ ∃ m a, i = .hardResetEnd m a) →
    (t.bank.accountMark ≠ s.bank.accountMark → i = .secondTick ∨ entry) ∧
    (t.bank.cutoffRun ≠ s.bank.cutoffRun → (∃ m, i = .scanComplete m) ∨ entry)) ∧
  (∀ s t : State, s.SettingsLegal → s.FeedLegal → s.PassLegal → step s = .next t → t.PassLegal)

/-- The counts of every port stay in range, the retry wait runs in FAULT alone, and the time in TRICKLE in TRICKLE alone
(R58, R69, R72). -/
def Obligations.PortRecordsStayInRange : Prop :=
  ∀ s t : State, s.PortsLegal → step s = .next t → t.PortsLegal

/-- Which commands can change what: the straps, the outage number, every setting in use, the provisioning of the ports, the
settings of the links, the staging record, the message slots and the image each change by the commands that the manual gives
for them and by no other.

The step of an empty queue, which takes the events that are due (log 1, log 2), changes none of them but for the outage
number, which goes on by one as an outage qualification in progress completes, and d_f and what a slot holds, which a reply may change
that a lane has followed past its window (log 35). -/
def Obligations.WhatOnlyNamedCommandsChange : Prop :=
  (∀ (i : Instr) (s t : State) (reset reload : Prop), exec i s = .next t →
    reset = ((∃ m a, i = .powerOnReset m a) ∨ ∃ m a, i = .hardResetEnd m a) →
    reload = (reset ∨ ∃ l a ps, i = .restart l a ps) →
    (t.straps ≠ s.straps → reset) ∧
    (t.store.image ≠ s.store.image → i = .settingsWriteEnd ∨ i = .hardReset ∨ i = .lossOfSupply ∨ reset) ∧
    (t.staging ≠ s.staging →
      (∃ a ps, i = .setOcvPart0 .bLink a ps) ∨ (∃ a ps, i = .setOcvPart1 .bLink a ps) ∨ reload) ∧
    (t.mains.outageNumber ≠ s.mains.outageNumber →
      i = .outageTimerExpiry ∨ (∃ b, i = .levelSample b) ∨ (∃ m, i = .scanComplete m) ∨
        (∃ a ps, i = .setMains .bLink a ps) ∨ reset) ∧
    (t.settings.ocv ≠ s.settings.ocv → (∃ a ps, i = .setOcvPart1 .bLink a ps) ∨ reload) ∧
    (t.settings.tHold ≠ s.settings.tHold ∨ t.settings.margin ≠ s.settings.margin ∨
      t.settings.pCeil ≠ s.settings.pCeil → (∃ a ps, i = .setHold .oLink a ps) ∨ reload) ∧
    (t.settings.gCap ≠ s.settings.gCap → (∃ a ps, i = .buildingLimit .bLink a ps) ∨ reload) ∧
    (t.settings.dwell ≠ s.settings.dwell ∨ t.settings.vGood ≠ s.settings.vGood ∨ t.settings.vFail ≠ s.settings.vFail ∨
      t.settings.sagMax ≠ s.settings.sagMax ∨ t.settings.testLimit ≠ s.settings.testLimit ∨
      t.settings.surveyOn ≠ s.settings.surveyOn ∨ t.settings.surveyDelay ≠ s.settings.surveyDelay →
      (∃ a ps, i = .setTest .oLink a ps) ∨ reload) ∧
    (t.settings.wakeAttempts ≠ s.settings.wakeAttempts ∨ t.settings.wakeTimeout ≠ s.settings.wakeTimeout →
      (∃ a ps, i = .setWake .oLink a ps) ∨ reload) ∧
    (t.settings.cap ≠ s.settings.cap ∨ t.settings.vCut ≠ s.settings.vCut →
      (∃ a ps, i = .setBank .bLink a ps) ∨ reload) ∧
    (t.settings.rB ≠ s.settings.rB →
      (∃ a ps, i = .setReserve .bLink a ps) ∨ (∃ a ps, i = .setBank .bLink a ps) ∨ reload) ∧
    (t.settings.style ≠ s.settings.style ∨ t.settings.tq ≠ s.settings.tq ∨ t.settings.tr ≠ s.settings.tr →
      (∃ a ps, i = .setMains .bLink a ps) ∨ reload) ∧
    (t.settings.ringMode ≠ s.settings.ringMode → (∃ a ps, i = .setRing .bLink a ps) ∨ reload) ∧
    (∀ p, (t.port p).prov.enabled ≠ (s.port p).prov.enabled ∨ (t.port p).prov.grade ≠ (s.port p).prov.grade ∨
      (t.port p).prov.rep ≠ (s.port p).prov.rep → (∃ a ps, i = .portSet .oLink a ps) ∨ reload) ∧
    (∀ p, (t.port p).prov.dt ≠ (s.port p).prov.dt → (∃ a ps, i = .portDraw .oLink a ps) ∨ reload) ∧
    (∀ p, (t.port p).prov.df ≠ (s.port p).prov.df →
      (∃ a ps, i = .portDraw .oLink a ps) ∨ (∃ j xs, i = .replyDecoded j xs) ∨ reload) ∧
    (∀ l, (t.link l).cfg.mask ≠ (s.link l).cfg.mask → (∃ a ps, i = .setNoticeMask l a ps) ∨ reload) ∧
    (∀ l, (t.link l).cfg.width ≠ (s.link l).cfg.width ∨ (t.link l).cfg.polarity ≠ (s.link l).cfg.polarity →
      (∃ a ps, i = .setAttn l a ps) ∨ reload) ∧
    (∀ j, (t.slot j).owner ≠ (s.slot j).owner ∨ (t.slot j).ports ≠ (s.slot j).ports ∨
      (t.slot j).kinds ≠ (s.slot j).kinds ∨ (t.slot j).mode ≠ (s.slot j).mode →
      (∃ l a ps, i = .slotConfigure l a ps) ∨ (∃ l a ps, i = .slotRelease l a ps) ∨ reload) ∧
    (∀ j, (t.slot j).content ≠ (s.slot j).content ∨ (t.slot j).overwritten ≠ (s.slot j).overwritten ∨
      (t.slot j).lost ≠ (s.slot j).lost →
      (∃ l a ps, i = .slotConfigure l a ps) ∨ (∃ l a ps, i = .slotRelease l a ps) ∨ (∃ l a ps, i = .slotRead l a ps) ∨
        (∃ k xs, i = .replyDecoded k xs) ∨ reload)) ∧
  (∀ s t : State, s.pending = [] → step s = .next t →
    t.phase = s.phase ∧ t.straps = s.straps ∧ t.lastReset = s.lastReset ∧ t.settings = s.settings ∧ t.store = s.store ∧
    t.staging = s.staging ∧
    (∀ p, ({ (t.port p).prov with df := 0 } : Provision) = { (s.port p).prov with df := 0 }) ∧
    (∀ l, (t.link l).cfg = (s.link l).cfg) ∧
    (∀ j, (t.slot j).owner = (s.slot j).owner ∧ (t.slot j).ports = (s.slot j).ports ∧
      (t.slot j).kinds = (s.slot j).kinds ∧ (t.slot j).mode = (s.slot j).mode) ∧
    (t.mains.outageNumber ≠ s.mains.outageNumber →
      s.mains.qual = .outage ∧ t.mains.outageNumber = s.mains.outageNumber + 1) ∧
    (∀ p, (t.port p).prov.df ≠ (s.port p).prov.df → ∃ k x, s.lane k = some x ∧ x.closed = true ∧ x.port = p) ∧
    (∀ j, (t.slot j).content ≠ (s.slot j).content ∨ (t.slot j).overwritten ≠ (s.slot j).overwritten ∨
      (t.slot j).lost ≠ (s.slot j).lost → ∃ k x, s.lane k = some x ∧ x.closed = true))
end

