-- ==== Sys2Proof/Laws/State.lean ====
section
/-! SUPPORT. One lemma for each field and each way of writing a block of State, so that no proof unfolds a record
update. -/

namespace Sys2Proof.Machine

open Sys2Proof

/-! ### State.modTime -/

section modTime

variable (s : State) (f : TimeBase → TimeBase)

@[simp] theorem State.modTime_phase : (s.modTime f).phase = s.phase := rfl
@[simp] theorem State.modTime_straps : (s.modTime f).straps = s.straps := rfl
@[simp] theorem State.modTime_lastReset : (s.modTime f).lastReset = s.lastReset := rfl
@[simp] theorem State.modTime_time : (s.modTime f).time = f s.time := rfl
@[simp] theorem State.modTime_mains : (s.modTime f).mains = s.mains := rfl
@[simp] theorem State.modTime_bank : (s.modTime f).bank = s.bank := rfl
@[simp] theorem State.modTime_account : (s.modTime f).account = s.account := rfl
@[simp] theorem State.modTime_budget : (s.modTime f).budget = s.budget := rfl
@[simp] theorem State.modTime_ports : (s.modTime f).ports = s.ports := rfl
@[simp] theorem State.modTime_lsu : (s.modTime f).lsu = s.lsu := rfl
@[simp] theorem State.modTime_wakes : (s.modTime f).wakes = s.wakes := rfl
@[simp] theorem State.modTime_tests : (s.modTime f).tests = s.tests := rfl
@[simp] theorem State.modTime_ring : (s.modTime f).ring = s.ring := rfl
@[simp] theorem State.modTime_slots : (s.modTime f).slots = s.slots := rfl
@[simp] theorem State.modTime_oLink : (s.modTime f).oLink = s.oLink := rfl
@[simp] theorem State.modTime_bLink : (s.modTime f).bLink = s.bLink := rfl
@[simp] theorem State.modTime_staging : (s.modTime f).staging = s.staging := rfl
@[simp] theorem State.modTime_settings : (s.modTime f).settings = s.settings := rfl
@[simp] theorem State.modTime_store : (s.modTime f).store = s.store := rfl
@[simp] theorem State.modTime_pending : (s.modTime f).pending = s.pending := rfl
@[simp] theorem State.modTime_mode : (s.modTime f).mode = s.mode := rfl
@[simp] theorem State.modTime_isRunning : (s.modTime f).isRunning = s.isRunning := rfl
@[simp] theorem State.modTime_port (p : Port) : (s.modTime f).port p = s.port p := rfl
@[simp] theorem State.modTime_slot (i : SlotId) : (s.modTime f).slot i = s.slot i := rfl
@[simp] theorem State.modTime_lane (i : LaneId) : (s.modTime f).lane i = s.lane i := rfl
@[simp] theorem State.modTime_flag (p : Port) : (s.modTime f).flag p = s.flag p := rfl
@[simp] theorem State.modTime_link (l : Link) : (s.modTime f).link l = s.link l := by cases l <;> rfl
@[simp] theorem State.modTime_serving (p : Port) : (s.modTime f).serving p = s.serving p := rfl

end modTime

/-! ### State.modMains -/

section modMains

variable (s : State) (f : Mains → Mains)

@[simp] theorem State.modMains_phase : (s.modMains f).phase = s.phase := rfl
@[simp] theorem State.modMains_straps : (s.modMains f).straps = s.straps := rfl
@[simp] theorem State.modMains_lastReset : (s.modMains f).lastReset = s.lastReset := rfl
@[simp] theorem State.modMains_time : (s.modMains f).time = s.time := rfl
@[simp] theorem State.modMains_mains : (s.modMains f).mains = f s.mains := rfl
@[simp] theorem State.modMains_bank : (s.modMains f).bank = s.bank := rfl
@[simp] theorem State.modMains_account : (s.modMains f).account = s.account := rfl
@[simp] theorem State.modMains_budget : (s.modMains f).budget = s.budget := rfl
@[simp] theorem State.modMains_ports : (s.modMains f).ports = s.ports := rfl
@[simp] theorem State.modMains_lsu : (s.modMains f).lsu = s.lsu := rfl
@[simp] theorem State.modMains_wakes : (s.modMains f).wakes = s.wakes := rfl
@[simp] theorem State.modMains_tests : (s.modMains f).tests = s.tests := rfl
@[simp] theorem State.modMains_ring : (s.modMains f).ring = s.ring := rfl
@[simp] theorem State.modMains_slots : (s.modMains f).slots = s.slots := rfl
@[simp] theorem State.modMains_oLink : (s.modMains f).oLink = s.oLink := rfl
@[simp] theorem State.modMains_bLink : (s.modMains f).bLink = s.bLink := rfl
@[simp] theorem State.modMains_staging : (s.modMains f).staging = s.staging := rfl
@[simp] theorem State.modMains_settings : (s.modMains f).settings = s.settings := rfl
@[simp] theorem State.modMains_store : (s.modMains f).store = s.store := rfl
@[simp] theorem State.modMains_pending : (s.modMains f).pending = s.pending := rfl
@[simp] theorem State.modMains_now : (s.modMains f).now = s.now := rfl
@[simp] theorem State.modMains_isRunning : (s.modMains f).isRunning = s.isRunning := rfl
@[simp] theorem State.modMains_port (p : Port) : (s.modMains f).port p = s.port p := rfl
@[simp] theorem State.modMains_slot (i : SlotId) : (s.modMains f).slot i = s.slot i := rfl
@[simp] theorem State.modMains_lane (i : LaneId) : (s.modMains f).lane i = s.lane i := rfl
@[simp] theorem State.modMains_flag (p : Port) : (s.modMains f).flag p = s.flag p := rfl
@[simp] theorem State.modMains_link (l : Link) : (s.modMains f).link l = s.link l := by cases l <;> rfl
@[simp] theorem State.modMains_serving (p : Port) : (s.modMains f).serving p = s.serving p := rfl

end modMains

/-! ### State.modBank -/

section modBank

variable (s : State) (f : Bank → Bank)

@[simp] theorem State.modBank_phase : (s.modBank f).phase = s.phase := rfl
@[simp] theorem State.modBank_straps : (s.modBank f).straps = s.straps := rfl
@[simp] theorem State.modBank_lastReset : (s.modBank f).lastReset = s.lastReset := rfl
@[simp] theorem State.modBank_time : (s.modBank f).time = s.time := rfl
@[simp] theorem State.modBank_mains : (s.modBank f).mains = s.mains := rfl
@[simp] theorem State.modBank_bank : (s.modBank f).bank = f s.bank := rfl
@[simp] theorem State.modBank_account : (s.modBank f).account = s.account := rfl
@[simp] theorem State.modBank_budget : (s.modBank f).budget = s.budget := rfl
@[simp] theorem State.modBank_ports : (s.modBank f).ports = s.ports := rfl
@[simp] theorem State.modBank_lsu : (s.modBank f).lsu = s.lsu := rfl
@[simp] theorem State.modBank_wakes : (s.modBank f).wakes = s.wakes := rfl
@[simp] theorem State.modBank_tests : (s.modBank f).tests = s.tests := rfl
@[simp] theorem State.modBank_ring : (s.modBank f).ring = s.ring := rfl
@[simp] theorem State.modBank_slots : (s.modBank f).slots = s.slots := rfl
@[simp] theorem State.modBank_oLink : (s.modBank f).oLink = s.oLink := rfl
@[simp] theorem State.modBank_bLink : (s.modBank f).bLink = s.bLink := rfl
@[simp] theorem State.modBank_staging : (s.modBank f).staging = s.staging := rfl
@[simp] theorem State.modBank_settings : (s.modBank f).settings = s.settings := rfl
@[simp] theorem State.modBank_store : (s.modBank f).store = s.store := rfl
@[simp] theorem State.modBank_pending : (s.modBank f).pending = s.pending := rfl
@[simp] theorem State.modBank_now : (s.modBank f).now = s.now := rfl
@[simp] theorem State.modBank_mode : (s.modBank f).mode = s.mode := rfl
@[simp] theorem State.modBank_isRunning : (s.modBank f).isRunning = s.isRunning := rfl
@[simp] theorem State.modBank_port (p : Port) : (s.modBank f).port p = s.port p := rfl
@[simp] theorem State.modBank_slot (i : SlotId) : (s.modBank f).slot i = s.slot i := rfl
@[simp] theorem State.modBank_lane (i : LaneId) : (s.modBank f).lane i = s.lane i := rfl
@[simp] theorem State.modBank_flag (p : Port) : (s.modBank f).flag p = s.flag p := rfl
@[simp] theorem State.modBank_link (l : Link) : (s.modBank f).link l = s.link l := by cases l <;> rfl
@[simp] theorem State.modBank_serving (p : Port) : (s.modBank f).serving p = s.serving p := rfl

end modBank

/-! ### State.modAccount -/

section modAccount

variable (s : State) (f : Account → Account)

@[simp] theorem State.modAccount_phase : (s.modAccount f).phase = s.phase := rfl
@[simp] theorem State.modAccount_straps : (s.modAccount f).straps = s.straps := rfl
@[simp] theorem State.modAccount_lastReset : (s.modAccount f).lastReset = s.lastReset := rfl
@[simp] theorem State.modAccount_time : (s.modAccount f).time = s.time := rfl
@[simp] theorem State.modAccount_mains : (s.modAccount f).mains = s.mains := rfl
@[simp] theorem State.modAccount_bank : (s.modAccount f).bank = s.bank := rfl
@[simp] theorem State.modAccount_account : (s.modAccount f).account = f s.account := rfl
@[simp] theorem State.modAccount_budget : (s.modAccount f).budget = s.budget := rfl
@[simp] theorem State.modAccount_ports : (s.modAccount f).ports = s.ports := rfl
@[simp] theorem State.modAccount_lsu : (s.modAccount f).lsu = s.lsu := rfl
@[simp] theorem State.modAccount_wakes : (s.modAccount f).wakes = s.wakes := rfl
@[simp] theorem State.modAccount_tests : (s.modAccount f).tests = s.tests := rfl
@[simp] theorem State.modAccount_ring : (s.modAccount f).ring = s.ring := rfl
@[simp] theorem State.modAccount_slots : (s.modAccount f).slots = s.slots := rfl
@[simp] theorem State.modAccount_oLink : (s.modAccount f).oLink = s.oLink := rfl
@[simp] theorem State.modAccount_bLink : (s.modAccount f).bLink = s.bLink := rfl
@[simp] theorem State.modAccount_staging : (s.modAccount f).staging = s.staging := rfl
@[simp] theorem State.modAccount_settings : (s.modAccount f).settings = s.settings := rfl
@[simp] theorem State.modAccount_store : (s.modAccount f).store = s.store := rfl
@[simp] theorem State.modAccount_pending : (s.modAccount f).pending = s.pending := rfl
@[simp] theorem State.modAccount_now : (s.modAccount f).now = s.now := rfl
@[simp] theorem State.modAccount_mode : (s.modAccount f).mode = s.mode := rfl
@[simp] theorem State.modAccount_isRunning : (s.modAccount f).isRunning = s.isRunning := rfl
@[simp] theorem State.modAccount_port (p : Port) : (s.modAccount f).port p = s.port p := rfl
@[simp] theorem State.modAccount_slot (i : SlotId) : (s.modAccount f).slot i = s.slot i := rfl
@[simp] theorem State.modAccount_lane (i : LaneId) : (s.modAccount f).lane i = s.lane i := rfl
@[simp] theorem State.modAccount_flag (p : Port) : (s.modAccount f).flag p = s.flag p := rfl
@[simp] theorem State.modAccount_link (l : Link) : (s.modAccount f).link l = s.link l := by cases l <;> rfl
@[simp] theorem State.modAccount_serving (p : Port) : (s.modAccount f).serving p = s.serving p := rfl

end modAccount

/-! ### State.modBudget -/

section modBudget

variable (s : State) (f : Budget → Budget)

@[simp] theorem State.modBudget_phase : (s.modBudget f).phase = s.phase := rfl
@[simp] theorem State.modBudget_straps : (s.modBudget f).straps = s.straps := rfl
@[simp] theorem State.modBudget_lastReset : (s.modBudget f).lastReset = s.lastReset := rfl
@[simp] theorem State.modBudget_time : (s.modBudget f).time = s.time := rfl
@[simp] theorem State.modBudget_mains : (s.modBudget f).mains = s.mains := rfl
@[simp] theorem State.modBudget_bank : (s.modBudget f).bank = s.bank := rfl
@[simp] theorem State.modBudget_account : (s.modBudget f).account = s.account := rfl
@[simp] theorem State.modBudget_budget : (s.modBudget f).budget = f s.budget := rfl
@[simp] theorem State.modBudget_ports : (s.modBudget f).ports = s.ports := rfl
@[simp] theorem State.modBudget_lsu : (s.modBudget f).lsu = s.lsu := rfl
@[simp] theorem State.modBudget_wakes : (s.modBudget f).wakes = s.wakes := rfl
@[simp] theorem State.modBudget_tests : (s.modBudget f).tests = s.tests := rfl
@[simp] theorem State.modBudget_ring : (s.modBudget f).ring = s.ring := rfl
@[simp] theorem State.modBudget_slots : (s.modBudget f).slots = s.slots := rfl
@[simp] theorem State.modBudget_oLink : (s.modBudget f).oLink = s.oLink := rfl
@[simp] theorem State.modBudget_bLink : (s.modBudget f).bLink = s.bLink := rfl
@[simp] theorem State.modBudget_staging : (s.modBudget f).staging = s.staging := rfl
@[simp] theorem State.modBudget_settings : (s.modBudget f).settings = s.settings := rfl
@[simp] theorem State.modBudget_store : (s.modBudget f).store = s.store := rfl
@[simp] theorem State.modBudget_pending : (s.modBudget f).pending = s.pending := rfl
@[simp] theorem State.modBudget_now : (s.modBudget f).now = s.now := rfl
@[simp] theorem State.modBudget_mode : (s.modBudget f).mode = s.mode := rfl
@[simp] theorem State.modBudget_isRunning : (s.modBudget f).isRunning = s.isRunning := rfl
@[simp] theorem State.modBudget_port (p : Port) : (s.modBudget f).port p = s.port p := rfl
@[simp] theorem State.modBudget_slot (i : SlotId) : (s.modBudget f).slot i = s.slot i := rfl
@[simp] theorem State.modBudget_lane (i : LaneId) : (s.modBudget f).lane i = s.lane i := rfl
@[simp] theorem State.modBudget_flag (p : Port) : (s.modBudget f).flag p = s.flag p := rfl
@[simp] theorem State.modBudget_link (l : Link) : (s.modBudget f).link l = s.link l := by cases l <;> rfl
@[simp] theorem State.modBudget_serving (p : Port) : (s.modBudget f).serving p = s.serving p := rfl

end modBudget

/-! ### State.modLsu -/

section modLsu

variable (s : State) (f : Lsu → Lsu)

@[simp] theorem State.modLsu_phase : (s.modLsu f).phase = s.phase := rfl
@[simp] theorem State.modLsu_straps : (s.modLsu f).straps = s.straps := rfl
@[simp] theorem State.modLsu_lastReset : (s.modLsu f).lastReset = s.lastReset := rfl
@[simp] theorem State.modLsu_time : (s.modLsu f).time = s.time := rfl
@[simp] theorem State.modLsu_mains : (s.modLsu f).mains = s.mains := rfl
@[simp] theorem State.modLsu_bank : (s.modLsu f).bank = s.bank := rfl
@[simp] theorem State.modLsu_account : (s.modLsu f).account = s.account := rfl
@[simp] theorem State.modLsu_budget : (s.modLsu f).budget = s.budget := rfl
@[simp] theorem State.modLsu_ports : (s.modLsu f).ports = s.ports := rfl
@[simp] theorem State.modLsu_lsu : (s.modLsu f).lsu = f s.lsu := rfl
@[simp] theorem State.modLsu_wakes : (s.modLsu f).wakes = s.wakes := rfl
@[simp] theorem State.modLsu_tests : (s.modLsu f).tests = s.tests := rfl
@[simp] theorem State.modLsu_ring : (s.modLsu f).ring = s.ring := rfl
@[simp] theorem State.modLsu_slots : (s.modLsu f).slots = s.slots := rfl
@[simp] theorem State.modLsu_oLink : (s.modLsu f).oLink = s.oLink := rfl
@[simp] theorem State.modLsu_bLink : (s.modLsu f).bLink = s.bLink := rfl
@[simp] theorem State.modLsu_staging : (s.modLsu f).staging = s.staging := rfl
@[simp] theorem State.modLsu_settings : (s.modLsu f).settings = s.settings := rfl
@[simp] theorem State.modLsu_store : (s.modLsu f).store = s.store := rfl
@[simp] theorem State.modLsu_pending : (s.modLsu f).pending = s.pending := rfl
@[simp] theorem State.modLsu_now : (s.modLsu f).now = s.now := rfl
@[simp] theorem State.modLsu_mode : (s.modLsu f).mode = s.mode := rfl
@[simp] theorem State.modLsu_isRunning : (s.modLsu f).isRunning = s.isRunning := rfl
@[simp] theorem State.modLsu_port (p : Port) : (s.modLsu f).port p = s.port p := rfl
@[simp] theorem State.modLsu_slot (i : SlotId) : (s.modLsu f).slot i = s.slot i := rfl
@[simp] theorem State.modLsu_link (l : Link) : (s.modLsu f).link l = s.link l := by cases l <;> rfl

end modLsu

/-! ### State.modWakes -/

section modWakes

variable (s : State) (f : WakeLists → WakeLists)

@[simp] theorem State.modWakes_phase : (s.modWakes f).phase = s.phase := rfl
@[simp] theorem State.modWakes_straps : (s.modWakes f).straps = s.straps := rfl
@[simp] theorem State.modWakes_lastReset : (s.modWakes f).lastReset = s.lastReset := rfl
@[simp] theorem State.modWakes_time : (s.modWakes f).time = s.time := rfl
@[simp] theorem State.modWakes_mains : (s.modWakes f).mains = s.mains := rfl
@[simp] theorem State.modWakes_bank : (s.modWakes f).bank = s.bank := rfl
@[simp] theorem State.modWakes_account : (s.modWakes f).account = s.account := rfl
@[simp] theorem State.modWakes_budget : (s.modWakes f).budget = s.budget := rfl
@[simp] theorem State.modWakes_ports : (s.modWakes f).ports = s.ports := rfl
@[simp] theorem State.modWakes_lsu : (s.modWakes f).lsu = s.lsu := rfl
@[simp] theorem State.modWakes_wakes : (s.modWakes f).wakes = f s.wakes := rfl
@[simp] theorem State.modWakes_tests : (s.modWakes f).tests = s.tests := rfl
@[simp] theorem State.modWakes_ring : (s.modWakes f).ring = s.ring := rfl
@[simp] theorem State.modWakes_slots : (s.modWakes f).slots = s.slots := rfl
@[simp] theorem State.modWakes_oLink : (s.modWakes f).oLink = s.oLink := rfl
@[simp] theorem State.modWakes_bLink : (s.modWakes f).bLink = s.bLink := rfl
@[simp] theorem State.modWakes_staging : (s.modWakes f).staging = s.staging := rfl
@[simp] theorem State.modWakes_settings : (s.modWakes f).settings = s.settings := rfl
@[simp] theorem State.modWakes_store : (s.modWakes f).store = s.store := rfl
@[simp] theorem State.modWakes_pending : (s.modWakes f).pending = s.pending := rfl
@[simp] theorem State.modWakes_now : (s.modWakes f).now = s.now := rfl
@[simp] theorem State.modWakes_mode : (s.modWakes f).mode = s.mode := rfl
@[simp] theorem State.modWakes_isRunning : (s.modWakes f).isRunning = s.isRunning := rfl
@[simp] theorem State.modWakes_port (p : Port) : (s.modWakes f).port p = s.port p := rfl
@[simp] theorem State.modWakes_slot (i : SlotId) : (s.modWakes f).slot i = s.slot i := rfl
@[simp] theorem State.modWakes_lane (i : LaneId) : (s.modWakes f).lane i = s.lane i := rfl
@[simp] theorem State.modWakes_flag (p : Port) : (s.modWakes f).flag p = s.flag p := rfl
@[simp] theorem State.modWakes_link (l : Link) : (s.modWakes f).link l = s.link l := by cases l <;> rfl
@[simp] theorem State.modWakes_serving (p : Port) : (s.modWakes f).serving p = s.serving p := rfl

end modWakes

/-! ### State.modTests -/

section modTests

variable (s : State) (f : TestEngine → TestEngine)

@[simp] theorem State.modTests_phase : (s.modTests f).phase = s.phase := rfl
@[simp] theorem State.modTests_straps : (s.modTests f).straps = s.straps := rfl
@[simp] theorem State.modTests_lastReset : (s.modTests f).lastReset = s.lastReset := rfl
@[simp] theorem State.modTests_time : (s.modTests f).time = s.time := rfl
@[simp] theorem State.modTests_mains : (s.modTests f).mains = s.mains := rfl
@[simp] theorem State.modTests_bank : (s.modTests f).bank = s.bank := rfl
@[simp] theorem State.modTests_account : (s.modTests f).account = s.account := rfl
@[simp] theorem State.modTests_budget : (s.modTests f).budget = s.budget := rfl
@[simp] theorem State.modTests_ports : (s.modTests f).ports = s.ports := rfl
@[simp] theorem State.modTests_lsu : (s.modTests f).lsu = s.lsu := rfl
@[simp] theorem State.modTests_wakes : (s.modTests f).wakes = s.wakes := rfl
@[simp] theorem State.modTests_tests : (s.modTests f).tests = f s.tests := rfl
@[simp] theorem State.modTests_ring : (s.modTests f).ring = s.ring := rfl
@[simp] theorem State.modTests_slots : (s.modTests f).slots = s.slots := rfl
@[simp] theorem State.modTests_oLink : (s.modTests f).oLink = s.oLink := rfl
@[simp] theorem State.modTests_bLink : (s.modTests f).bLink = s.bLink := rfl
@[simp] theorem State.modTests_staging : (s.modTests f).staging = s.staging := rfl
@[simp] theorem State.modTests_settings : (s.modTests f).settings = s.settings := rfl
@[simp] theorem State.modTests_store : (s.modTests f).store = s.store := rfl
@[simp] theorem State.modTests_pending : (s.modTests f).pending = s.pending := rfl
@[simp] theorem State.modTests_now : (s.modTests f).now = s.now := rfl
@[simp] theorem State.modTests_mode : (s.modTests f).mode = s.mode := rfl
@[simp] theorem State.modTests_isRunning : (s.modTests f).isRunning = s.isRunning := rfl
@[simp] theorem State.modTests_port (p : Port) : (s.modTests f).port p = s.port p := rfl
@[simp] theorem State.modTests_slot (i : SlotId) : (s.modTests f).slot i = s.slot i := rfl
@[simp] theorem State.modTests_lane (i : LaneId) : (s.modTests f).lane i = s.lane i := rfl
@[simp] theorem State.modTests_flag (p : Port) : (s.modTests f).flag p = s.flag p := rfl
@[simp] theorem State.modTests_link (l : Link) : (s.modTests f).link l = s.link l := by cases l <;> rfl
@[simp] theorem State.modTests_serving (p : Port) : (s.modTests f).serving p = s.serving p := rfl

end modTests

/-! ### State.modRing -/

section modRing

variable (s : State) (f : Ring → Ring)

@[simp] theorem State.modRing_phase : (s.modRing f).phase = s.phase := rfl
@[simp] theorem State.modRing_straps : (s.modRing f).straps = s.straps := rfl
@[simp] theorem State.modRing_lastReset : (s.modRing f).lastReset = s.lastReset := rfl
@[simp] theorem State.modRing_time : (s.modRing f).time = s.time := rfl
@[simp] theorem State.modRing_mains : (s.modRing f).mains = s.mains := rfl
@[simp] theorem State.modRing_bank : (s.modRing f).bank = s.bank := rfl
@[simp] theorem State.modRing_account : (s.modRing f).account = s.account := rfl
@[simp] theorem State.modRing_budget : (s.modRing f).budget = s.budget := rfl
@[simp] theorem State.modRing_ports : (s.modRing f).ports = s.ports := rfl
@[simp] theorem State.modRing_lsu : (s.modRing f).lsu = s.lsu := rfl
@[simp] theorem State.modRing_wakes : (s.modRing f).wakes = s.wakes := rfl
@[simp] theorem State.modRing_tests : (s.modRing f).tests = s.tests := rfl
@[simp] theorem State.modRing_ring : (s.modRing f).ring = f s.ring := rfl
@[simp] theorem State.modRing_slots : (s.modRing f).slots = s.slots := rfl
@[simp] theorem State.modRing_oLink : (s.modRing f).oLink = s.oLink := rfl
@[simp] theorem State.modRing_bLink : (s.modRing f).bLink = s.bLink := rfl
@[simp] theorem State.modRing_staging : (s.modRing f).staging = s.staging := rfl
@[simp] theorem State.modRing_settings : (s.modRing f).settings = s.settings := rfl
@[simp] theorem State.modRing_store : (s.modRing f).store = s.store := rfl
@[simp] theorem State.modRing_pending : (s.modRing f).pending = s.pending := rfl
@[simp] theorem State.modRing_now : (s.modRing f).now = s.now := rfl
@[simp] theorem State.modRing_mode : (s.modRing f).mode = s.mode := rfl
@[simp] theorem State.modRing_isRunning : (s.modRing f).isRunning = s.isRunning := rfl
@[simp] theorem State.modRing_port (p : Port) : (s.modRing f).port p = s.port p := rfl
@[simp] theorem State.modRing_slot (i : SlotId) : (s.modRing f).slot i = s.slot i := rfl
@[simp] theorem State.modRing_lane (i : LaneId) : (s.modRing f).lane i = s.lane i := rfl
@[simp] theorem State.modRing_flag (p : Port) : (s.modRing f).flag p = s.flag p := rfl
@[simp] theorem State.modRing_link (l : Link) : (s.modRing f).link l = s.link l := by cases l <;> rfl
@[simp] theorem State.modRing_serving (p : Port) : (s.modRing f).serving p = s.serving p := rfl

end modRing

/-! ### State.modSettings -/

section modSettings

variable (s : State) (f : Settings → Settings)

@[simp] theorem State.modSettings_phase : (s.modSettings f).phase = s.phase := rfl
@[simp] theorem State.modSettings_straps : (s.modSettings f).straps = s.straps := rfl
@[simp] theorem State.modSettings_lastReset : (s.modSettings f).lastReset = s.lastReset := rfl
@[simp] theorem State.modSettings_time : (s.modSettings f).time = s.time := rfl
@[simp] theorem State.modSettings_mains : (s.modSettings f).mains = s.mains := rfl
@[simp] theorem State.modSettings_bank : (s.modSettings f).bank = s.bank := rfl
@[simp] theorem State.modSettings_account : (s.modSettings f).account = s.account := rfl
@[simp] theorem State.modSettings_budget : (s.modSettings f).budget = s.budget := rfl
@[simp] theorem State.modSettings_ports : (s.modSettings f).ports = s.ports := rfl
@[simp] theorem State.modSettings_lsu : (s.modSettings f).lsu = s.lsu := rfl
@[simp] theorem State.modSettings_wakes : (s.modSettings f).wakes = s.wakes := rfl
@[simp] theorem State.modSettings_tests : (s.modSettings f).tests = s.tests := rfl
@[simp] theorem State.modSettings_ring : (s.modSettings f).ring = s.ring := rfl
@[simp] theorem State.modSettings_slots : (s.modSettings f).slots = s.slots := rfl
@[simp] theorem State.modSettings_oLink : (s.modSettings f).oLink = s.oLink := rfl
@[simp] theorem State.modSettings_bLink : (s.modSettings f).bLink = s.bLink := rfl
@[simp] theorem State.modSettings_staging : (s.modSettings f).staging = s.staging := rfl
@[simp] theorem State.modSettings_settings : (s.modSettings f).settings = f s.settings := rfl
@[simp] theorem State.modSettings_store : (s.modSettings f).store = s.store := rfl
@[simp] theorem State.modSettings_pending : (s.modSettings f).pending = s.pending := rfl
@[simp] theorem State.modSettings_now : (s.modSettings f).now = s.now := rfl
@[simp] theorem State.modSettings_mode : (s.modSettings f).mode = s.mode := rfl
@[simp] theorem State.modSettings_isRunning : (s.modSettings f).isRunning = s.isRunning := rfl
@[simp] theorem State.modSettings_port (p : Port) : (s.modSettings f).port p = s.port p := rfl
@[simp] theorem State.modSettings_slot (i : SlotId) : (s.modSettings f).slot i = s.slot i := rfl
@[simp] theorem State.modSettings_lane (i : LaneId) : (s.modSettings f).lane i = s.lane i := rfl
@[simp] theorem State.modSettings_flag (p : Port) : (s.modSettings f).flag p = s.flag p := rfl
@[simp] theorem State.modSettings_link (l : Link) : (s.modSettings f).link l = s.link l := by cases l <;> rfl
@[simp] theorem State.modSettings_serving (p : Port) : (s.modSettings f).serving p = s.serving p := rfl

end modSettings

/-! ### State.modStore -/

section modStore

variable (s : State) (f : Store → Store)

@[simp] theorem State.modStore_phase : (s.modStore f).phase = s.phase := rfl
@[simp] theorem State.modStore_straps : (s.modStore f).straps = s.straps := rfl
@[simp] theorem State.modStore_lastReset : (s.modStore f).lastReset = s.lastReset := rfl
@[simp] theorem State.modStore_time : (s.modStore f).time = s.time := rfl
@[simp] theorem State.modStore_mains : (s.modStore f).mains = s.mains := rfl
@[simp] theorem State.modStore_bank : (s.modStore f).bank = s.bank := rfl
@[simp] theorem State.modStore_account : (s.modStore f).account = s.account := rfl
@[simp] theorem State.modStore_budget : (s.modStore f).budget = s.budget := rfl
@[simp] theorem State.modStore_ports : (s.modStore f).ports = s.ports := rfl
@[simp] theorem State.modStore_lsu : (s.modStore f).lsu = s.lsu := rfl
@[simp] theorem State.modStore_wakes : (s.modStore f).wakes = s.wakes := rfl
@[simp] theorem State.modStore_tests : (s.modStore f).tests = s.tests := rfl
@[simp] theorem State.modStore_ring : (s.modStore f).ring = s.ring := rfl
@[simp] theorem State.modStore_slots : (s.modStore f).slots = s.slots := rfl
@[simp] theorem State.modStore_oLink : (s.modStore f).oLink = s.oLink := rfl
@[simp] theorem State.modStore_bLink : (s.modStore f).bLink = s.bLink := rfl
@[simp] theorem State.modStore_staging : (s.modStore f).staging = s.staging := rfl
@[simp] theorem State.modStore_settings : (s.modStore f).settings = s.settings := rfl
@[simp] theorem State.modStore_store : (s.modStore f).store = f s.store := rfl
@[simp] theorem State.modStore_pending : (s.modStore f).pending = s.pending := rfl
@[simp] theorem State.modStore_now : (s.modStore f).now = s.now := rfl
@[simp] theorem State.modStore_mode : (s.modStore f).mode = s.mode := rfl
@[simp] theorem State.modStore_isRunning : (s.modStore f).isRunning = s.isRunning := rfl
@[simp] theorem State.modStore_port (p : Port) : (s.modStore f).port p = s.port p := rfl
@[simp] theorem State.modStore_slot (i : SlotId) : (s.modStore f).slot i = s.slot i := rfl
@[simp] theorem State.modStore_lane (i : LaneId) : (s.modStore f).lane i = s.lane i := rfl
@[simp] theorem State.modStore_flag (p : Port) : (s.modStore f).flag p = s.flag p := rfl
@[simp] theorem State.modStore_link (l : Link) : (s.modStore f).link l = s.link l := by cases l <;> rfl
@[simp] theorem State.modStore_serving (p : Port) : (s.modStore f).serving p = s.serving p := rfl

end modStore

/-! ### State.modPort -/

section modPort

variable (s : State) (p : Port) (f : PortRecord → PortRecord)

@[simp] theorem State.modPort_phase : (s.modPort p f).phase = s.phase := by unfold State.modPort; rfl
@[simp] theorem State.modPort_straps : (s.modPort p f).straps = s.straps := by unfold State.modPort; rfl
@[simp] theorem State.modPort_lastReset : (s.modPort p f).lastReset = s.lastReset := by unfold State.modPort; rfl
@[simp] theorem State.modPort_time : (s.modPort p f).time = s.time := by unfold State.modPort; rfl
@[simp] theorem State.modPort_mains : (s.modPort p f).mains = s.mains := by unfold State.modPort; rfl
@[simp] theorem State.modPort_bank : (s.modPort p f).bank = s.bank := by unfold State.modPort; rfl
@[simp] theorem State.modPort_account : (s.modPort p f).account = s.account := by unfold State.modPort; rfl
@[simp] theorem State.modPort_budget : (s.modPort p f).budget = s.budget := by unfold State.modPort; rfl
@[simp] theorem State.modPort_lsu : (s.modPort p f).lsu = s.lsu := by unfold State.modPort; rfl
@[simp] theorem State.modPort_wakes : (s.modPort p f).wakes = s.wakes := by unfold State.modPort; rfl
@[simp] theorem State.modPort_tests : (s.modPort p f).tests = s.tests := by unfold State.modPort; rfl
@[simp] theorem State.modPort_ring : (s.modPort p f).ring = s.ring := by unfold State.modPort; rfl
@[simp] theorem State.modPort_slots : (s.modPort p f).slots = s.slots := by unfold State.modPort; rfl
@[simp] theorem State.modPort_oLink : (s.modPort p f).oLink = s.oLink := by unfold State.modPort; rfl
@[simp] theorem State.modPort_bLink : (s.modPort p f).bLink = s.bLink := by unfold State.modPort; rfl
@[simp] theorem State.modPort_staging : (s.modPort p f).staging = s.staging := by unfold State.modPort; rfl
@[simp] theorem State.modPort_settings : (s.modPort p f).settings = s.settings := by unfold State.modPort; rfl
@[simp] theorem State.modPort_store : (s.modPort p f).store = s.store := by unfold State.modPort; rfl
@[simp] theorem State.modPort_pending : (s.modPort p f).pending = s.pending := by unfold State.modPort; rfl
@[simp] theorem State.modPort_now : (s.modPort p f).now = s.now := by simp [State.now]
@[simp] theorem State.modPort_mode : (s.modPort p f).mode = s.mode := by simp [State.mode]
@[simp] theorem State.modPort_isRunning : (s.modPort p f).isRunning = s.isRunning := by simp [State.isRunning]
@[simp] theorem State.modPort_slot (i : SlotId) : (s.modPort p f).slot i = s.slot i := by simp [State.slot]
@[simp] theorem State.modPort_lane (i : LaneId) : (s.modPort p f).lane i = s.lane i := by simp [State.lane]
@[simp] theorem State.modPort_flag (q : Port) : (s.modPort p f).flag q = s.flag q := by simp [State.flag]
@[simp] theorem State.modPort_link (l : Link) : (s.modPort p f).link l = s.link l := by cases l <;> simp [State.link]
@[simp] theorem State.modPort_serving (q : Port) : (s.modPort p f).serving q = s.serving q := by simp [State.serving]

end modPort

/-! ### State.mapPorts -/

section mapPorts

variable (s : State) (f : Port → PortRecord → PortRecord)

@[simp] theorem State.mapPorts_phase : (s.mapPorts f).phase = s.phase := by unfold State.mapPorts; rfl
@[simp] theorem State.mapPorts_straps : (s.mapPorts f).straps = s.straps := by unfold State.mapPorts; rfl
@[simp] theorem State.mapPorts_lastReset : (s.mapPorts f).lastReset = s.lastReset := by unfold State.mapPorts; rfl
@[simp] theorem State.mapPorts_time : (s.mapPorts f).time = s.time := by unfold State.mapPorts; rfl
@[simp] theorem State.mapPorts_mains : (s.mapPorts f).mains = s.mains := by unfold State.mapPorts; rfl
@[simp] theorem State.mapPorts_bank : (s.mapPorts f).bank = s.bank := by unfold State.mapPorts; rfl
@[simp] theorem State.mapPorts_account : (s.mapPorts f).account = s.account := by unfold State.mapPorts; rfl
@[simp] theorem State.mapPorts_budget : (s.mapPorts f).budget = s.budget := by unfold State.mapPorts; rfl
@[simp] theorem State.mapPorts_lsu : (s.mapPorts f).lsu = s.lsu := by unfold State.mapPorts; rfl
@[simp] theorem State.mapPorts_wakes : (s.mapPorts f).wakes = s.wakes := by unfold State.mapPorts; rfl
@[simp] theorem State.mapPorts_tests : (s.mapPorts f).tests = s.tests := by unfold State.mapPorts; rfl
@[simp] theorem State.mapPorts_ring : (s.mapPorts f).ring = s.ring := by unfold State.mapPorts; rfl
@[simp] theorem State.mapPorts_slots : (s.mapPorts f).slots = s.slots := by unfold State.mapPorts; rfl
@[simp] theorem State.mapPorts_oLink : (s.mapPorts f).oLink = s.oLink := by unfold State.mapPorts; rfl
@[simp] theorem State.mapPorts_bLink : (s.mapPorts f).bLink = s.bLink := by unfold State.mapPorts; rfl
@[simp] theorem State.mapPorts_staging : (s.mapPorts f).staging = s.staging := by unfold State.mapPorts; rfl
@[simp] theorem State.mapPorts_settings : (s.mapPorts f).settings = s.settings := by unfold State.mapPorts; rfl
@[simp] theorem State.mapPorts_store : (s.mapPorts f).store = s.store := by unfold State.mapPorts; rfl
@[simp] theorem State.mapPorts_pending : (s.mapPorts f).pending = s.pending := by unfold State.mapPorts; rfl
@[simp] theorem State.mapPorts_now : (s.mapPorts f).now = s.now := by simp [State.now]
@[simp] theorem State.mapPorts_mode : (s.mapPorts f).mode = s.mode := by simp [State.mode]
@[simp] theorem State.mapPorts_isRunning : (s.mapPorts f).isRunning = s.isRunning := by simp [State.isRunning]
@[simp] theorem State.mapPorts_slot (i : SlotId) : (s.mapPorts f).slot i = s.slot i := by simp [State.slot]
@[simp] theorem State.mapPorts_lane (i : LaneId) : (s.mapPorts f).lane i = s.lane i := by simp [State.lane]
@[simp] theorem State.mapPorts_flag (q : Port) : (s.mapPorts f).flag q = s.flag q := by simp [State.flag]
@[simp] theorem State.mapPorts_link (l : Link) : (s.mapPorts f).link l = s.link l := by cases l <;> simp [State.link]
@[simp] theorem State.mapPorts_serving (q : Port) : (s.mapPorts f).serving q = s.serving q := by simp [State.serving]

end mapPorts

/-! ### State.modSlot -/

section modSlot

variable (s : State) (k : SlotId) (f : Slot → Slot)

@[simp] theorem State.modSlot_phase : (s.modSlot k f).phase = s.phase := by unfold State.modSlot; rfl
@[simp] theorem State.modSlot_straps : (s.modSlot k f).straps = s.straps := by unfold State.modSlot; rfl
@[simp] theorem State.modSlot_lastReset : (s.modSlot k f).lastReset = s.lastReset := by unfold State.modSlot; rfl
@[simp] theorem State.modSlot_time : (s.modSlot k f).time = s.time := by unfold State.modSlot; rfl
@[simp] theorem State.modSlot_mains : (s.modSlot k f).mains = s.mains := by unfold State.modSlot; rfl
@[simp] theorem State.modSlot_bank : (s.modSlot k f).bank = s.bank := by unfold State.modSlot; rfl
@[simp] theorem State.modSlot_account : (s.modSlot k f).account = s.account := by unfold State.modSlot; rfl
@[simp] theorem State.modSlot_budget : (s.modSlot k f).budget = s.budget := by unfold State.modSlot; rfl
@[simp] theorem State.modSlot_ports : (s.modSlot k f).ports = s.ports := by unfold State.modSlot; rfl
@[simp] theorem State.modSlot_lsu : (s.modSlot k f).lsu = s.lsu := by unfold State.modSlot; rfl
@[simp] theorem State.modSlot_wakes : (s.modSlot k f).wakes = s.wakes := by unfold State.modSlot; rfl
@[simp] theorem State.modSlot_tests : (s.modSlot k f).tests = s.tests := by unfold State.modSlot; rfl
@[simp] theorem State.modSlot_ring : (s.modSlot k f).ring = s.ring := by unfold State.modSlot; rfl
@[simp] theorem State.modSlot_oLink : (s.modSlot k f).oLink = s.oLink := by unfold State.modSlot; rfl
@[simp] theorem State.modSlot_bLink : (s.modSlot k f).bLink = s.bLink := by unfold State.modSlot; rfl
@[simp] theorem State.modSlot_staging : (s.modSlot k f).staging = s.staging := by unfold State.modSlot; rfl
@[simp] theorem State.modSlot_settings : (s.modSlot k f).settings = s.settings := by unfold State.modSlot; rfl
@[simp] theorem State.modSlot_store : (s.modSlot k f).store = s.store := by unfold State.modSlot; rfl
@[simp] theorem State.modSlot_pending : (s.modSlot k f).pending = s.pending := by unfold State.modSlot; rfl
@[simp] theorem State.modSlot_now : (s.modSlot k f).now = s.now := by simp [State.now]
@[simp] theorem State.modSlot_mode : (s.modSlot k f).mode = s.mode := by simp [State.mode]
@[simp] theorem State.modSlot_isRunning : (s.modSlot k f).isRunning = s.isRunning := by simp [State.isRunning]
@[simp] theorem State.modSlot_port (q : Port) : (s.modSlot k f).port q = s.port q := by simp [State.port]
@[simp] theorem State.modSlot_lane (i : LaneId) : (s.modSlot k f).lane i = s.lane i := by simp [State.lane]
@[simp] theorem State.modSlot_flag (q : Port) : (s.modSlot k f).flag q = s.flag q := by simp [State.flag]
@[simp] theorem State.modSlot_link (l : Link) : (s.modSlot k f).link l = s.link l := by cases l <;> simp [State.link]
@[simp] theorem State.modSlot_serving (q : Port) : (s.modSlot k f).serving q = s.serving q := by simp [State.serving]

end modSlot

/-! ### State.setLane -/

section setLane

variable (s : State) (k : LaneId) (t : Option Transaction)

@[simp] theorem State.setLane_phase : (s.setLane k t).phase = s.phase := rfl
@[simp] theorem State.setLane_straps : (s.setLane k t).straps = s.straps := rfl
@[simp] theorem State.setLane_lastReset : (s.setLane k t).lastReset = s.lastReset := rfl
@[simp] theorem State.setLane_time : (s.setLane k t).time = s.time := rfl
@[simp] theorem State.setLane_mains : (s.setLane k t).mains = s.mains := rfl
@[simp] theorem State.setLane_bank : (s.setLane k t).bank = s.bank := rfl
@[simp] theorem State.setLane_account : (s.setLane k t).account = s.account := rfl
@[simp] theorem State.setLane_budget : (s.setLane k t).budget = s.budget := rfl
@[simp] theorem State.setLane_ports : (s.setLane k t).ports = s.ports := rfl
@[simp] theorem State.setLane_wakes : (s.setLane k t).wakes = s.wakes := rfl
@[simp] theorem State.setLane_tests : (s.setLane k t).tests = s.tests := rfl
@[simp] theorem State.setLane_ring : (s.setLane k t).ring = s.ring := rfl
@[simp] theorem State.setLane_slots : (s.setLane k t).slots = s.slots := rfl
@[simp] theorem State.setLane_oLink : (s.setLane k t).oLink = s.oLink := rfl
@[simp] theorem State.setLane_bLink : (s.setLane k t).bLink = s.bLink := rfl
@[simp] theorem State.setLane_staging : (s.setLane k t).staging = s.staging := rfl
@[simp] theorem State.setLane_settings : (s.setLane k t).settings = s.settings := rfl
@[simp] theorem State.setLane_store : (s.setLane k t).store = s.store := rfl
@[simp] theorem State.setLane_pending : (s.setLane k t).pending = s.pending := rfl
@[simp] theorem State.setLane_now : (s.setLane k t).now = s.now := rfl
@[simp] theorem State.setLane_mode : (s.setLane k t).mode = s.mode := rfl
@[simp] theorem State.setLane_isRunning : (s.setLane k t).isRunning = s.isRunning := rfl
@[simp] theorem State.setLane_port (q : Port) : (s.setLane k t).port q = s.port q := by simp [State.port]
@[simp] theorem State.setLane_slot (i : SlotId) : (s.setLane k t).slot i = s.slot i := by simp [State.slot]
@[simp] theorem State.setLane_link (l : Link) : (s.setLane k t).link l = s.link l := by cases l <;> simp [State.link]

end setLane

/-! ### State.setFlag -/

section setFlag

variable (s : State) (k : Port) (d : FlagDetector)

@[simp] theorem State.setFlag_phase : (s.setFlag k d).phase = s.phase := rfl
@[simp] theorem State.setFlag_straps : (s.setFlag k d).straps = s.straps := rfl
@[simp] theorem State.setFlag_lastReset : (s.setFlag k d).lastReset = s.lastReset := rfl
@[simp] theorem State.setFlag_time : (s.setFlag k d).time = s.time := rfl
@[simp] theorem State.setFlag_mains : (s.setFlag k d).mains = s.mains := rfl
@[simp] theorem State.setFlag_bank : (s.setFlag k d).bank = s.bank := rfl
@[simp] theorem State.setFlag_account : (s.setFlag k d).account = s.account := rfl
@[simp] theorem State.setFlag_budget : (s.setFlag k d).budget = s.budget := rfl
@[simp] theorem State.setFlag_ports : (s.setFlag k d).ports = s.ports := rfl
@[simp] theorem State.setFlag_wakes : (s.setFlag k d).wakes = s.wakes := rfl
@[simp] theorem State.setFlag_tests : (s.setFlag k d).tests = s.tests := rfl
@[simp] theorem State.setFlag_ring : (s.setFlag k d).ring = s.ring := rfl
@[simp] theorem State.setFlag_slots : (s.setFlag k d).slots = s.slots := rfl
@[simp] theorem State.setFlag_oLink : (s.setFlag k d).oLink = s.oLink := rfl
@[simp] theorem State.setFlag_bLink : (s.setFlag k d).bLink = s.bLink := rfl
@[simp] theorem State.setFlag_staging : (s.setFlag k d).staging = s.staging := rfl
@[simp] theorem State.setFlag_settings : (s.setFlag k d).settings = s.settings := rfl
@[simp] theorem State.setFlag_store : (s.setFlag k d).store = s.store := rfl
@[simp] theorem State.setFlag_pending : (s.setFlag k d).pending = s.pending := rfl
@[simp] theorem State.setFlag_now : (s.setFlag k d).now = s.now := rfl
@[simp] theorem State.setFlag_mode : (s.setFlag k d).mode = s.mode := rfl
@[simp] theorem State.setFlag_isRunning : (s.setFlag k d).isRunning = s.isRunning := rfl
@[simp] theorem State.setFlag_port (q : Port) : (s.setFlag k d).port q = s.port q := by simp [State.port]
@[simp] theorem State.setFlag_slot (i : SlotId) : (s.setFlag k d).slot i = s.slot i := by simp [State.slot]
@[simp] theorem State.setFlag_link (l : Link) : (s.setFlag k d).link l = s.link l := by cases l <;> simp [State.link]

end setFlag

/-! ### State.modLink -/

section modLink

variable (s : State) (k : Link) (f : LinkContext → LinkContext)

@[simp] theorem State.modLink_phase : (s.modLink k f).phase = s.phase := by cases k <;> rfl
@[simp] theorem State.modLink_straps : (s.modLink k f).straps = s.straps := by cases k <;> rfl
@[simp] theorem State.modLink_lastReset : (s.modLink k f).lastReset = s.lastReset := by cases k <;> rfl
@[simp] theorem State.modLink_time : (s.modLink k f).time = s.time := by cases k <;> rfl
@[simp] theorem State.modLink_mains : (s.modLink k f).mains = s.mains := by cases k <;> rfl
@[simp] theorem State.modLink_bank : (s.modLink k f).bank = s.bank := by cases k <;> rfl
@[simp] theorem State.modLink_account : (s.modLink k f).account = s.account := by cases k <;> rfl
@[simp] theorem State.modLink_budget : (s.modLink k f).budget = s.budget := by cases k <;> rfl
@[simp] theorem State.modLink_ports : (s.modLink k f).ports = s.ports := by cases k <;> rfl
@[simp] theorem State.modLink_lsu : (s.modLink k f).lsu = s.lsu := by cases k <;> rfl
@[simp] theorem State.modLink_wakes : (s.modLink k f).wakes = s.wakes := by cases k <;> rfl
@[simp] theorem State.modLink_tests : (s.modLink k f).tests = s.tests := by cases k <;> rfl
@[simp] theorem State.modLink_ring : (s.modLink k f).ring = s.ring := by cases k <;> rfl
@[simp] theorem State.modLink_slots : (s.modLink k f).slots = s.slots := by cases k <;> rfl
@[simp] theorem State.modLink_staging : (s.modLink k f).staging = s.staging := by cases k <;> rfl
@[simp] theorem State.modLink_settings : (s.modLink k f).settings = s.settings := by cases k <;> rfl
@[simp] theorem State.modLink_store : (s.modLink k f).store = s.store := by cases k <;> rfl
@[simp] theorem State.modLink_pending : (s.modLink k f).pending = s.pending := by cases k <;> rfl
@[simp] theorem State.modLink_now : (s.modLink k f).now = s.now := by cases k <;> rfl
@[simp] theorem State.modLink_mode : (s.modLink k f).mode = s.mode := by cases k <;> rfl
@[simp] theorem State.modLink_isRunning : (s.modLink k f).isRunning = s.isRunning := by cases k <;> rfl
@[simp] theorem State.modLink_port (q : Port) : (s.modLink k f).port q = s.port q := by simp [State.port]
@[simp] theorem State.modLink_slot (i : SlotId) : (s.modLink k f).slot i = s.slot i := by simp [State.slot]
@[simp] theorem State.modLink_lane (i : LaneId) : (s.modLink k f).lane i = s.lane i := by simp [State.lane]
@[simp] theorem State.modLink_flag (q : Port) : (s.modLink k f).flag q = s.flag q := by simp [State.flag]
@[simp] theorem State.modLink_serving (q : Port) : (s.modLink k f).serving q = s.serving q := by simp [State.serving]

end modLink

/-! ### A part written, read back -/

@[simp] theorem State.modPort_port_self (s : State) (p : Port) (f : PortRecord → PortRecord) :
    (s.modPort p f).port p = f (s.port p) := by
  simp [State.port, State.modPort]

theorem State.modPort_port_ne (s : State) {p q : Port} (f : PortRecord → PortRecord) (h : q ≠ p) :
    (s.modPort p f).port q = s.port q := by
  have h' : p.val ≠ q.val := fun e => h (Fin.ext e.symm)
  simp [State.port, State.modPort, h']

theorem State.modPort_port (s : State) (p q : Port) (f : PortRecord → PortRecord) :
    (s.modPort p f).port q = if q = p then f (s.port p) else s.port q := by
  split
  · rename_i h; subst h; simp
  · rename_i h; exact s.modPort_port_ne f h

@[simp] theorem State.mapPorts_port (s : State) (f : Port → PortRecord → PortRecord) (p : Port) :
    (s.mapPorts f).port p = f p (s.port p) := by
  simp [State.port, State.mapPorts]

@[simp] theorem State.modSlot_slot_self (s : State) (i : SlotId) (f : Slot → Slot) :
    (s.modSlot i f).slot i = f (s.slot i) := by
  simp [State.slot, State.modSlot]

theorem State.modSlot_slot_ne (s : State) {i j : SlotId} (f : Slot → Slot) (h : j ≠ i) :
    (s.modSlot i f).slot j = s.slot j := by
  have h' : i.val ≠ j.val := fun e => h (Fin.ext e.symm)
  simp [State.slot, State.modSlot, h']

@[simp] theorem State.setLane_lane_self (s : State) (i : LaneId) (t : Option Transaction) :
    (s.setLane i t).lane i = t := by
  simp [State.lane, State.setLane, State.modLsu]

theorem State.setLane_lane_ne (s : State) {i j : LaneId} (t : Option Transaction) (h : j ≠ i) :
    (s.setLane i t).lane j = s.lane j := by
  have h' : i.val ≠ j.val := fun e => h (Fin.ext e.symm)
  simp [State.lane, State.setLane, State.modLsu, h']

@[simp] theorem State.setFlag_flag_self (s : State) (p : Port) (d : FlagDetector) : (s.setFlag p d).flag p = d := by
  simp [State.flag, State.setFlag, State.modLsu]

theorem State.setFlag_flag_ne (s : State) {p q : Port} (d : FlagDetector) (h : q ≠ p) :
    (s.setFlag p d).flag q = s.flag q := by
  have h' : p.val ≠ q.val := fun e => h (Fin.ext e.symm)
  simp [State.flag, State.setFlag, State.modLsu, h']

@[simp] theorem State.setFlag_lane (s : State) (p : Port) (d : FlagDetector) (i : LaneId) :
    (s.setFlag p d).lane i = s.lane i := rfl

@[simp] theorem State.setLane_flag (s : State) (i : LaneId) (t : Option Transaction) (p : Port) :
    (s.setLane i t).flag p = s.flag p := rfl

@[simp] theorem State.setFlag_queue (s : State) (p : Port) (d : FlagDetector) :
    (s.setFlag p d).lsu.queue = s.lsu.queue := rfl

@[simp] theorem State.setLane_queue (s : State) (i : LaneId) (t : Option Transaction) :
    (s.setLane i t).lsu.queue = s.lsu.queue := rfl

@[simp] theorem State.modLink_link_self (s : State) (l : Link) (f : LinkContext → LinkContext) :
    (s.modLink l f).link l = f (s.link l) := by cases l <;> rfl

theorem State.modLink_link_ne (s : State) {l k : Link} (f : LinkContext → LinkContext) (h : k ≠ l) :
    (s.modLink l f).link k = s.link k := by
  cases l <;> cases k <;> first | rfl | exact absurd rfl h

@[simp] theorem State.modLink_oLink (s : State) (f : LinkContext → LinkContext) :
    (s.modLink .oLink f).oLink = f s.oLink := rfl

@[simp] theorem State.modLink_bLink (s : State) (f : LinkContext → LinkContext) :
    (s.modLink .bLink f).bLink = f s.bLink := rfl

@[simp] theorem State.modLink_oLink_other (s : State) (f : LinkContext → LinkContext) :
    (s.modLink .oLink f).bLink = s.bLink := rfl

@[simp] theorem State.modLink_bLink_other (s : State) (f : LinkContext → LinkContext) :
    (s.modLink .bLink f).oLink = s.oLink := rfl

end Sys2Proof.Machine
end

