-- ==== Sys2Proof/Laws/Commands.lean ====
section
/-! SUPPORT. What a master's frame can come to: the refusals of the framer and of the checks, and a command taken
(R157 to R164). The statements about the commands cite these in place of unfolding the link interfaces. -/

namespace Sys2Proof.Machine

open Sys2Proof

variable {s t : State} {l : Link} {addr : Byte} {ps : List Byte} {c : CommandSpec} {serve : State → Taken}

theorem State.framed_eq (s : State) (l : Link) : s.framed l = s.taken l := rfl

@[simp] theorem State.taken_mode (s : State) (l : Link) : (s.taken l).mode = s.mode := by cases l <;> rfl
@[simp] theorem State.taken_replyAddress (s : State) (l : Link) : (s.taken l).replyAddress = s.replyAddress := by
  cases l <;> rfl
@[simp] theorem State.taken_inFlight (s : State) (l : Link) : ((s.taken l).link l).inFlight = (s.link l).inFlight := by
  cases l <;> rfl

@[simp] theorem State.taken_now (s : State) (l : Link) : (s.taken l).now = s.now := by cases l <;> rfl

/-- A link with no command in flight sends nothing (R157, R161). -/
theorem State.sending_of_idle (h : (s.link l).inFlight = none) : s.sending l = false := by
  simp [State.sending, LinkContext.sentAt, h]

/-- A link sends from the tick count that its reply in flight begins at (R157, R164). -/
theorem State.sending_iff : s.sending l = true ↔
    ∃ code frame n, (s.link l).inFlight = some ⟨code, some frame⟩ ∧ (s.link l).sendFrom = some n ∧ n ≤ s.now := by
  rcases hc : (s.link l).inFlight with _ | ⟨code, _ | frame⟩ <;> rcases hn : (s.link l).sendFrom with _ | n <;>
    simp [State.sending, LinkContext.sentAt, hc, hn]

/-- What a link that is ready takes: it runs, the line was silent, nothing is in flight, and the address is its own. -/
theorem State.ready_iff : s.ready l addr = true ↔
    s.isRunning = true ∧ (s.link l).silent = true ∧ (s.link l).inFlight = none ∧ s.addressed l addr = true := by
  simp [State.ready, and_assoc]

/-- A command frame of an address that reaches the part is accepted (R159, R160). -/
theorem State.handling_addressed {f : Frame} (hc : isCommandCode f.code = true)
    (ha : s.addressed f.link f.addr = true) : s.handling f = .accepted := by
  obtain ⟨l, a, code, ps⟩ := f
  cases l <;> simp_all [State.handling, State.addressed]

/-- A ready link hands a command on to its checks (R157 to R161). -/
theorem State.command_ready (h : s.ready l addr = true) (hc : isCommandCode c.code = true) (hl : ps.length ≤ 24) :
    s.command l addr ps c serve = (s.taken l).takeChecked ⟨l, addr, c.code, ps⟩ c serve := by
  obtain ⟨h₁, h₂, h₃, h₄⟩ := State.ready_iff.mp h
  have hh : s.handling ⟨l, addr, c.code, ps⟩ = .accepted := State.handling_addressed hc h₄
  simp [State.command, State.receive, h₁, h₂, hc, hh, Nat.not_lt.mpr hl, State.framed_eq, State.unlessInFlight, h₃,
    State.sending_of_idle h₃]

/-- A command that fails one of the checks is refused, and nothing else changes (R162, R164). -/
theorem State.command_refused {st : Status} (h : s.ready l addr = true) (hc : isCommandCode c.code = true)
    (hl : ps.length ≤ 24) (hr : c.refusal l s.mode ps.length = some st) :
    s.command l addr ps c serve = s.replied l c.code [st.code] := by
  rw [State.command_ready h hc hl]
  simp [State.takeChecked, hr, State.fly, State.replyFrame, State.replied, Answer.bytes, State.replyStart]

/-- A command that passes the checks is taken by its owner, and its reply is in flight (R162, R164). -/
theorem State.command_taken (h : s.ready l addr = true) (hc : isCommandCode c.code = true) (hl : ps.length ≤ 24)
    (hr : c.refusal l s.mode ps.length = none) :
    s.command l addr ps c serve = (serve (s.taken l)).1.fly l c.code (serve (s.taken l)).2 := by
  rw [State.command_ready h hc hl]
  simp [State.takeChecked, hr]

/-- A frame while the part does not run is not heard (R15, R16). -/
theorem State.command_off (h : s.isRunning = false) : s.command l addr ps c serve = s := by
  simp [State.command, State.receive, h]

/-- The checks of R162, in their order. -/
theorem CommandSpec.refusal_eq (c : CommandSpec) (l : Link) (m : Mode) (n : Nat) :
    c.refusal l m n =
      if c.authority.allows l = false then some .refusedLink
      else if c.availability.allows m = false then some .refusedMode
      else if n ≠ c.length then some .badLength
      else none := rfl

end Sys2Proof.Machine
end

