-- ==== Sys2Proof/Laws/Decoder.lean ====
section
/-! SUPPORT. What the capture makes of samples at one level, so that no proof steps through a long low level. -/

namespace Sys2Proof.Machine

open Sys2Proof

/-- Samples at the level of the run under way widen it. -/
theorem formRuns_same (r : Run) (n : Nat) (rest : List Bool) :
    formRuns (some r) none (List.replicate n r.level ++ rest) = formRuns (some ⟨r.level, r.width + n⟩) none rest := by
  induction n generalizing r with
  | zero => rfl
  | succ n ih =>
    rw [List.replicate_succ, List.cons_append, formRuns, if_pos rfl, ih ⟨r.level, r.width + 1⟩, Nat.add_assoc, Nat.add_comm 1]

/-- Two samples or more at one level begin a run. -/
theorem runsOf_level (b : Bool) (n : Nat) (rest : List Bool) :
    runsOf (List.replicate (n + 2) b ++ rest) = formRuns (some ⟨b, n + 2⟩) none rest := by
  rw [Nat.add_comm n 2, ← formRuns_same ⟨b, 2⟩ n rest, Nat.add_comm 2 n]
  cases b <;> rfl

/-- The decoder reads a low level of two samples or more as one run, whatever its length. -/
theorem decodeSamples_low (n : Nat) (rest : List Bool) :
    decodeSamples (List.replicate (n + 2) false ++ rest) =
      decodeRuns ((formRuns (some ⟨false, n + 2⟩) none rest).2 = some true) .start
        (joinEntries ((formRuns (some ⟨false, n + 2⟩) none rest).1.flatMap recordRun)) := by
  rw [decodeSamples, capture, runsOf_level]

end Sys2Proof.Machine
end

