-- ==== Sys2Proof/Laws/Operations.lean ====
section
/-! SUPPORT. What each shared operation leaves as it is: one lemma for each operation, with every block of State that the
operation does not write, and one with what is read from those blocks, so that no proof unfolds the operation to carry a
block past it. -/

namespace Sys2Proof.Machine

open Sys2Proof

/-- What each step of a fold leaves as it is, the fold leaves as it is. -/
theorem foldl_keeps {α β : Type} (f : State → β) (g : State → α → State) (h : ∀ s a, f (g s a) = f s) (l : List α) :
    ∀ s : State, f (l.foldl g s) = f s := by
  induction l with
  | nil => intro s; rfl
  | cons a l ih => intro s; rw [List.foldl_cons, ih, h]

/-- A link context is one of the two. -/
theorem State.link_eq (s : State) (l : Link) : s.link l = if l = .oLink then s.oLink else s.bLink := by cases l <;> rfl

variable (s : State)

/-! ### The passing of time writes the Time Base and the count of the qualification, and nothing else -/

@[simp] theorem State.elapse_keeps (n : Nat) :
    (s.elapse n).phase = s.phase ∧ (s.elapse n).straps = s.straps ∧ (s.elapse n).lastReset = s.lastReset ∧
    (s.elapse n).bank = s.bank ∧ (s.elapse n).account = s.account ∧ (s.elapse n).budget = s.budget ∧
    (s.elapse n).ports = s.ports ∧ (s.elapse n).lsu = s.lsu ∧ (s.elapse n).wakes = s.wakes ∧
    (s.elapse n).tests = s.tests ∧ (s.elapse n).ring = s.ring ∧ (s.elapse n).slots = s.slots ∧
    (s.elapse n).oLink = s.oLink ∧ (s.elapse n).bLink = s.bLink ∧ (s.elapse n).staging = s.staging ∧
    (s.elapse n).settings = s.settings ∧ (s.elapse n).store = s.store ∧ (s.elapse n).pending = s.pending := by
  simp [State.elapse]

/-- What the passing of `n` ms makes of the Time Base (R1, R3). -/
theorem State.elapse_time (n : Nat) :
    (s.elapse n).time =
      { s.time with
        tick := min (s.now + n) Config.tickMax
        sinceSecond := s.time.sinceSecond + n
        lastLevel := if s.settings.style = .edge then min (s.now + n) Config.tickMax / 100 * 100 else s.time.lastLevel } := rfl

/-- What the passing of `n` ms makes of the Mains Qualifier (R5). -/
theorem State.elapse_mains (n : Nat) :
    (s.elapse n).mains =
      if s.settings.style = .edge ∧ s.mains.qual ≠ .none ∧ s.mains.count < s.target then
        { s.mains with count := min (s.mains.count + n) s.target }
      else s.mains := rfl

@[simp] theorem State.elapse_now (n : Nat) : (s.elapse n).now = min (s.now + n) Config.tickMax := rfl

@[simp] theorem State.elapse_reads (n : Nat) :
    (s.elapse n).isRunning = s.isRunning ∧ (s.elapse n).mode = s.mode ∧ (∀ x, (s.elapse n).port x = s.port x) ∧
    (∀ x, (s.elapse n).slot x = s.slot x) ∧ (∀ x, (s.elapse n).lane x = s.lane x) ∧ (∀ x, (s.elapse n).flag x = s.flag x) ∧
    (∀ x, (s.elapse n).serving x = s.serving x) ∧ (∀ x, (s.elapse n).link x = s.link x) ∧
    (∀ x y z, (s.elapse n).entry? x y z = s.entry? x y z) := by
  simp only [State.isRunning, State.mode, State.elapse_mains, State.port, State.slot, State.lane, State.flag,
    State.serving, State.link_eq, State.entry?]
  split <;> simp

@[simp] theorem State.advanceTo_keeps (t : Nat) :
    (s.advanceTo t).phase = s.phase ∧ (s.advanceTo t).straps = s.straps ∧ (s.advanceTo t).lastReset = s.lastReset ∧
    (s.advanceTo t).bank = s.bank ∧ (s.advanceTo t).account = s.account ∧ (s.advanceTo t).budget = s.budget ∧
    (s.advanceTo t).ports = s.ports ∧ (s.advanceTo t).lsu = s.lsu ∧ (s.advanceTo t).wakes = s.wakes ∧
    (s.advanceTo t).tests = s.tests ∧ (s.advanceTo t).ring = s.ring ∧ (s.advanceTo t).slots = s.slots ∧
    (s.advanceTo t).oLink = s.oLink ∧ (s.advanceTo t).bLink = s.bLink ∧ (s.advanceTo t).staging = s.staging ∧
    (s.advanceTo t).settings = s.settings ∧ (s.advanceTo t).store = s.store ∧
    (s.advanceTo t).pending = s.pending := by
  simp [State.advanceTo]

@[simp] theorem State.advanceTo_reads (t : Nat) :
    (s.advanceTo t).isRunning = s.isRunning ∧ (s.advanceTo t).mode = s.mode ∧ (∀ x, (s.advanceTo t).port x = s.port x) ∧
    (∀ x, (s.advanceTo t).slot x = s.slot x) ∧ (∀ x, (s.advanceTo t).lane x = s.lane x) ∧ (∀ x, (s.advanceTo t).flag x = s.flag x) ∧
    (∀ x, (s.advanceTo t).serving x = s.serving x) ∧ (∀ x, (s.advanceTo t).link x = s.link x) ∧
    (∀ x y z, (s.advanceTo t).entry? x y z = s.entry? x y z) := by
  simp [State.advanceTo]

@[simp] theorem State.notify_keeps (l : Link) (k : Notice) :
    (s.notify l k).phase = s.phase ∧ (s.notify l k).pending = s.pending ∧ (s.notify l k).time = s.time ∧
    (s.notify l k).mains = s.mains ∧ (s.notify l k).bank = s.bank ∧ (s.notify l k).account = s.account ∧
    (s.notify l k).budget = s.budget ∧ (s.notify l k).ports = s.ports ∧ (s.notify l k).lsu = s.lsu ∧
    (s.notify l k).wakes = s.wakes ∧ (s.notify l k).tests = s.tests ∧ (s.notify l k).ring = s.ring ∧
    (s.notify l k).slots = s.slots ∧ (s.notify l k).settings = s.settings ∧ (s.notify l k).store = s.store := by
  simp [State.notify]

@[simp] theorem State.notify_reads (l : Link) (k : Notice) :
    (s.notify l k).isRunning = s.isRunning ∧ (s.notify l k).now = s.now ∧ (s.notify l k).mode = s.mode ∧
    (∀ x, (s.notify l k).port x = s.port x) ∧ (∀ x, (s.notify l k).slot x = s.slot x) ∧
    (∀ x, (s.notify l k).lane x = s.lane x) ∧ (∀ x, (s.notify l k).serving x = s.serving x) ∧
    (∀ x y z, (s.notify l k).entry? x y z = s.entry? x y z) := by
  simp [State.isRunning, State.now, State.mode, State.port, State.slot, State.lane, State.serving, State.entry?]

@[simp] theorem State.notifyBoth_keeps (k : Notice) :
    (s.notifyBoth k).phase = s.phase ∧ (s.notifyBoth k).pending = s.pending ∧ (s.notifyBoth k).time = s.time ∧
    (s.notifyBoth k).mains = s.mains ∧ (s.notifyBoth k).bank = s.bank ∧ (s.notifyBoth k).account = s.account ∧
    (s.notifyBoth k).budget = s.budget ∧ (s.notifyBoth k).ports = s.ports ∧ (s.notifyBoth k).lsu = s.lsu ∧
    (s.notifyBoth k).wakes = s.wakes ∧ (s.notifyBoth k).tests = s.tests ∧ (s.notifyBoth k).ring = s.ring ∧
    (s.notifyBoth k).slots = s.slots ∧ (s.notifyBoth k).settings = s.settings ∧ (s.notifyBoth k).store = s.store := by
  simp [State.notifyBoth]

@[simp] theorem State.notifyBoth_reads (k : Notice) :
    (s.notifyBoth k).isRunning = s.isRunning ∧ (s.notifyBoth k).now = s.now ∧ (s.notifyBoth k).mode = s.mode ∧
    (∀ x, (s.notifyBoth k).port x = s.port x) ∧ (∀ x, (s.notifyBoth k).slot x = s.slot x) ∧
    (∀ x, (s.notifyBoth k).lane x = s.lane x) ∧ (∀ x, (s.notifyBoth k).serving x = s.serving x) ∧
    (∀ x y z, (s.notifyBoth k).entry? x y z = s.entry? x y z) := by
  simp [State.isRunning, State.now, State.mode, State.port, State.slot, State.lane, State.serving, State.entry?]

@[simp] theorem State.requestPass_keeps (k : PassKind) :
    (s.requestPass k).phase = s.phase ∧ (s.requestPass k).pending = s.pending ∧ (s.requestPass k).time = s.time ∧
    (s.requestPass k).mains = s.mains ∧ (s.requestPass k).bank = s.bank ∧ (s.requestPass k).account = s.account ∧
    (s.requestPass k).ports = s.ports ∧ (s.requestPass k).lsu = s.lsu ∧ (s.requestPass k).wakes = s.wakes ∧
    (s.requestPass k).tests = s.tests ∧ (s.requestPass k).ring = s.ring ∧ (s.requestPass k).slots = s.slots ∧
    (s.requestPass k).oLink = s.oLink ∧ (s.requestPass k).bLink = s.bLink ∧ (s.requestPass k).settings = s.settings ∧
    (s.requestPass k).store = s.store := by
  simp only [State.requestPass]
  (repeat' split) <;> simp

@[simp] theorem State.requestPass_reads (k : PassKind) :
    (s.requestPass k).isRunning = s.isRunning ∧ (s.requestPass k).now = s.now ∧ (s.requestPass k).mode = s.mode ∧
    (∀ x, (s.requestPass k).port x = s.port x) ∧ (∀ x, (s.requestPass k).slot x = s.slot x) ∧
    (∀ x, (s.requestPass k).lane x = s.lane x) ∧ (∀ x, (s.requestPass k).serving x = s.serving x) ∧
    (∀ x, (s.requestPass k).link x = s.link x) ∧ (∀ x y z, (s.requestPass k).entry? x y z = s.entry? x y z) := by
  simp [State.isRunning, State.now, State.mode, State.port, State.slot, State.lane, State.serving, State.link_eq, State.entry?]

@[simp] theorem State.setTerminal_keeps (p : Port) (t : Terminal) :
    (s.setTerminal p t).phase = s.phase ∧ (s.setTerminal p t).pending = s.pending ∧
    (s.setTerminal p t).time = s.time ∧ (s.setTerminal p t).mains = s.mains ∧ (s.setTerminal p t).bank = s.bank ∧
    (s.setTerminal p t).account = s.account ∧ (s.setTerminal p t).lsu = s.lsu ∧ (s.setTerminal p t).wakes = s.wakes ∧
    (s.setTerminal p t).tests = s.tests ∧ (s.setTerminal p t).ring = s.ring ∧ (s.setTerminal p t).slots = s.slots ∧
    (s.setTerminal p t).oLink = s.oLink ∧ (s.setTerminal p t).bLink = s.bLink ∧
    (s.setTerminal p t).settings = s.settings ∧ (s.setTerminal p t).store = s.store := by
  simp only [State.setTerminal]
  (repeat' split) <;> simp

@[simp] theorem State.setTerminal_reads (p : Port) (t : Terminal) :
    (s.setTerminal p t).isRunning = s.isRunning ∧ (s.setTerminal p t).now = s.now ∧
    (s.setTerminal p t).mode = s.mode ∧ (∀ x, (s.setTerminal p t).slot x = s.slot x) ∧
    (∀ x, (s.setTerminal p t).lane x = s.lane x) ∧ (∀ x, (s.setTerminal p t).serving x = s.serving x) ∧
    (∀ x, (s.setTerminal p t).link x = s.link x) ∧ (∀ x y z, (s.setTerminal p t).entry? x y z = s.entry? x y z) := by
  simp [State.isRunning, State.now, State.mode, State.slot, State.lane, State.serving, State.link_eq, State.entry?]

@[simp] theorem State.setBattery_keeps (p : Port) (g : Battery) :
    (s.setBattery p g).phase = s.phase ∧ (s.setBattery p g).pending = s.pending ∧ (s.setBattery p g).time = s.time ∧
    (s.setBattery p g).mains = s.mains ∧ (s.setBattery p g).bank = s.bank ∧ (s.setBattery p g).account = s.account ∧
    (s.setBattery p g).lsu = s.lsu ∧ (s.setBattery p g).wakes = s.wakes ∧ (s.setBattery p g).tests = s.tests ∧
    (s.setBattery p g).ring = s.ring ∧ (s.setBattery p g).slots = s.slots ∧ (s.setBattery p g).oLink = s.oLink ∧
    (s.setBattery p g).bLink = s.bLink ∧ (s.setBattery p g).settings = s.settings ∧
    (s.setBattery p g).store = s.store := by
  simp only [State.setBattery]
  (repeat' split) <;> simp

@[simp] theorem State.setBattery_reads (p : Port) (g : Battery) :
    (s.setBattery p g).isRunning = s.isRunning ∧ (s.setBattery p g).now = s.now ∧ (s.setBattery p g).mode = s.mode ∧
    (∀ x, (s.setBattery p g).slot x = s.slot x) ∧ (∀ x, (s.setBattery p g).lane x = s.lane x) ∧
    (∀ x, (s.setBattery p g).serving x = s.serving x) ∧ (∀ x, (s.setBattery p g).link x = s.link x) ∧
    (∀ x y z, (s.setBattery p g).entry? x y z = s.entry? x y z) := by
  simp [State.isRunning, State.now, State.mode, State.slot, State.lane, State.serving, State.link_eq, State.entry?]

@[simp] theorem State.dropEntries_keeps (f : Entry → Bool) :
    (s.dropEntries f).phase = s.phase ∧ (s.dropEntries f).pending = s.pending ∧ (s.dropEntries f).time = s.time ∧
    (s.dropEntries f).mains = s.mains ∧ (s.dropEntries f).bank = s.bank ∧ (s.dropEntries f).account = s.account ∧
    (s.dropEntries f).budget = s.budget ∧ (s.dropEntries f).ports = s.ports ∧ (s.dropEntries f).wakes = s.wakes ∧
    (s.dropEntries f).tests = s.tests ∧ (s.dropEntries f).ring = s.ring ∧ (s.dropEntries f).slots = s.slots ∧
    (s.dropEntries f).oLink = s.oLink ∧ (s.dropEntries f).bLink = s.bLink ∧ (s.dropEntries f).settings = s.settings ∧
    (s.dropEntries f).store = s.store := by
  simp [State.dropEntries]

@[simp] theorem State.dropEntries_reads (f : Entry → Bool) :
    (s.dropEntries f).isRunning = s.isRunning ∧ (s.dropEntries f).now = s.now ∧ (s.dropEntries f).mode = s.mode ∧
    (∀ x, (s.dropEntries f).port x = s.port x) ∧ (∀ x, (s.dropEntries f).slot x = s.slot x) ∧
    (∀ x, (s.dropEntries f).link x = s.link x) := by
  simp [State.isRunning, State.now, State.mode, State.port, State.slot, State.link_eq]

@[simp] theorem State.removeEntry_keeps (p : Port) (k : RequestKind) (c : OriginClass) :
    (s.removeEntry p k c).phase = s.phase ∧ (s.removeEntry p k c).pending = s.pending ∧
    (s.removeEntry p k c).time = s.time ∧ (s.removeEntry p k c).mains = s.mains ∧
    (s.removeEntry p k c).bank = s.bank ∧ (s.removeEntry p k c).account = s.account ∧
    (s.removeEntry p k c).budget = s.budget ∧ (s.removeEntry p k c).ports = s.ports ∧
    (s.removeEntry p k c).wakes = s.wakes ∧ (s.removeEntry p k c).tests = s.tests ∧
    (s.removeEntry p k c).ring = s.ring ∧ (s.removeEntry p k c).slots = s.slots ∧
    (s.removeEntry p k c).oLink = s.oLink ∧ (s.removeEntry p k c).bLink = s.bLink ∧
    (s.removeEntry p k c).settings = s.settings ∧ (s.removeEntry p k c).store = s.store := by
  simp [State.removeEntry]

@[simp] theorem State.removeEntry_reads (p : Port) (k : RequestKind) (c : OriginClass) :
    (s.removeEntry p k c).isRunning = s.isRunning ∧ (s.removeEntry p k c).now = s.now ∧
    (s.removeEntry p k c).mode = s.mode ∧ (∀ x, (s.removeEntry p k c).port x = s.port x) ∧
    (∀ x, (s.removeEntry p k c).slot x = s.slot x) ∧ (∀ x, (s.removeEntry p k c).link x = s.link x) := by
  simp [State.isRunning, State.now, State.mode, State.port, State.slot, State.link_eq]

@[simp] theorem State.modEntry_keeps (p : Port) (k : RequestKind) (c : OriginClass) (f : Entry → Entry) :
    (s.modEntry p k c f).phase = s.phase ∧ (s.modEntry p k c f).pending = s.pending ∧
    (s.modEntry p k c f).time = s.time ∧ (s.modEntry p k c f).mains = s.mains ∧ (s.modEntry p k c f).bank = s.bank ∧
    (s.modEntry p k c f).account = s.account ∧ (s.modEntry p k c f).budget = s.budget ∧
    (s.modEntry p k c f).ports = s.ports ∧ (s.modEntry p k c f).wakes = s.wakes ∧
    (s.modEntry p k c f).tests = s.tests ∧ (s.modEntry p k c f).ring = s.ring ∧ (s.modEntry p k c f).slots = s.slots ∧
    (s.modEntry p k c f).oLink = s.oLink ∧ (s.modEntry p k c f).bLink = s.bLink ∧
    (s.modEntry p k c f).settings = s.settings ∧ (s.modEntry p k c f).store = s.store := by
  simp [State.modEntry]

@[simp] theorem State.modEntry_reads (p : Port) (k : RequestKind) (c : OriginClass) (f : Entry → Entry) :
    (s.modEntry p k c f).isRunning = s.isRunning ∧ (s.modEntry p k c f).now = s.now ∧
    (s.modEntry p k c f).mode = s.mode ∧ (∀ x, (s.modEntry p k c f).port x = s.port x) ∧
    (∀ x, (s.modEntry p k c f).slot x = s.slot x) ∧ (∀ x, (s.modEntry p k c f).link x = s.link x) := by
  simp [State.isRunning, State.now, State.mode, State.port, State.slot, State.link_eq]

@[simp] theorem State.dropWake_keeps (p : Port) :
    (s.dropWake p).phase = s.phase ∧ (s.dropWake p).pending = s.pending ∧ (s.dropWake p).time = s.time ∧
    (s.dropWake p).mains = s.mains ∧ (s.dropWake p).bank = s.bank ∧ (s.dropWake p).account = s.account ∧
    (s.dropWake p).budget = s.budget ∧ (s.dropWake p).tests = s.tests ∧ (s.dropWake p).ring = s.ring ∧
    (s.dropWake p).slots = s.slots ∧ (s.dropWake p).oLink = s.oLink ∧ (s.dropWake p).bLink = s.bLink ∧
    (s.dropWake p).settings = s.settings ∧ (s.dropWake p).store = s.store := by
  simp [State.dropWake]

@[simp] theorem State.dropWake_reads (p : Port) :
    (s.dropWake p).isRunning = s.isRunning ∧ (s.dropWake p).now = s.now ∧ (s.dropWake p).mode = s.mode ∧
    (∀ x, (s.dropWake p).slot x = s.slot x) ∧ (∀ x, (s.dropWake p).link x = s.link x) := by
  simp [State.isRunning, State.now, State.mode, State.slot, State.link_eq]

@[simp] theorem State.expireWake_keeps (p : Port) :
    (s.expireWake p).phase = s.phase ∧ (s.expireWake p).pending = s.pending ∧ (s.expireWake p).time = s.time ∧
    (s.expireWake p).mains = s.mains ∧ (s.expireWake p).bank = s.bank ∧ (s.expireWake p).account = s.account ∧
    (s.expireWake p).tests = s.tests ∧ (s.expireWake p).ring = s.ring ∧ (s.expireWake p).slots = s.slots ∧
    (s.expireWake p).settings = s.settings ∧ (s.expireWake p).store = s.store := by
  simp [State.expireWake]

@[simp] theorem State.expireWake_reads (p : Port) :
    (s.expireWake p).isRunning = s.isRunning ∧ (s.expireWake p).now = s.now ∧ (s.expireWake p).mode = s.mode ∧
    (∀ x, (s.expireWake p).slot x = s.slot x) := by
  simp [State.isRunning, State.now, State.mode, State.slot]

@[simp] theorem State.returnEntry_keeps (t : Transaction) :
    (s.returnEntry t).phase = s.phase ∧ (s.returnEntry t).pending = s.pending ∧ (s.returnEntry t).time = s.time ∧
    (s.returnEntry t).mains = s.mains ∧ (s.returnEntry t).bank = s.bank ∧ (s.returnEntry t).account = s.account ∧
    (s.returnEntry t).tests = s.tests ∧ (s.returnEntry t).ring = s.ring ∧ (s.returnEntry t).slots = s.slots ∧
    (s.returnEntry t).settings = s.settings ∧ (s.returnEntry t).store = s.store := by
  simp only [State.returnEntry]
  (repeat' split) <;> simp

@[simp] theorem State.returnEntry_reads (t : Transaction) :
    (s.returnEntry t).isRunning = s.isRunning ∧ (s.returnEntry t).now = s.now ∧ (s.returnEntry t).mode = s.mode ∧
    (∀ x, (s.returnEntry t).slot x = s.slot x) := by
  simp [State.isRunning, State.now, State.mode, State.slot]

@[simp] theorem State.abandonLane_keeps (p : Port) (i : LaneId) :
    (s.abandonLane p i).phase = s.phase ∧ (s.abandonLane p i).pending = s.pending ∧
    (s.abandonLane p i).time = s.time ∧ (s.abandonLane p i).mains = s.mains ∧ (s.abandonLane p i).bank = s.bank ∧
    (s.abandonLane p i).account = s.account ∧ (s.abandonLane p i).tests = s.tests ∧
    (s.abandonLane p i).ring = s.ring ∧ (s.abandonLane p i).slots = s.slots ∧
    (s.abandonLane p i).settings = s.settings ∧ (s.abandonLane p i).store = s.store := by
  simp only [State.abandonLane]
  (repeat' split) <;> simp

@[simp] theorem State.abandonLane_reads (p : Port) (i : LaneId) :
    (s.abandonLane p i).isRunning = s.isRunning ∧ (s.abandonLane p i).now = s.now ∧
    (s.abandonLane p i).mode = s.mode ∧ (∀ x, (s.abandonLane p i).slot x = s.slot x) := by
  simp [State.isRunning, State.now, State.mode, State.slot]

@[simp] theorem State.abandonPort_keeps (p : Port) :
    (s.abandonPort p).phase = s.phase ∧ (s.abandonPort p).pending = s.pending ∧ (s.abandonPort p).time = s.time ∧
    (s.abandonPort p).mains = s.mains ∧ (s.abandonPort p).bank = s.bank ∧ (s.abandonPort p).account = s.account ∧
    (s.abandonPort p).tests = s.tests ∧ (s.abandonPort p).ring = s.ring ∧ (s.abandonPort p).slots = s.slots ∧
    (s.abandonPort p).settings = s.settings ∧ (s.abandonPort p).store = s.store := by
  and_intros <;> exact foldl_keeps _ _ (fun _ _ => by simp) _ s

@[simp] theorem State.abandonPort_reads (p : Port) :
    (s.abandonPort p).isRunning = s.isRunning ∧ (s.abandonPort p).now = s.now ∧ (s.abandonPort p).mode = s.mode ∧
    (∀ x, (s.abandonPort p).slot x = s.slot x) := by
  simp [State.isRunning, State.now, State.mode, State.slot]

@[simp] theorem State.repark_keeps (p : Port) :
    (s.repark p).phase = s.phase ∧ (s.repark p).pending = s.pending ∧ (s.repark p).time = s.time ∧
    (s.repark p).mains = s.mains ∧ (s.repark p).bank = s.bank ∧ (s.repark p).account = s.account ∧
    (s.repark p).lsu = s.lsu ∧ (s.repark p).tests = s.tests ∧ (s.repark p).ring = s.ring ∧
    (s.repark p).slots = s.slots ∧ (s.repark p).oLink = s.oLink ∧ (s.repark p).bLink = s.bLink ∧
    (s.repark p).settings = s.settings ∧ (s.repark p).store = s.store := by
  simp only [State.repark]
  (repeat' split) <;> simp

@[simp] theorem State.repark_reads (p : Port) :
    (s.repark p).isRunning = s.isRunning ∧ (s.repark p).now = s.now ∧ (s.repark p).mode = s.mode ∧
    (∀ x, (s.repark p).slot x = s.slot x) ∧ (∀ x, (s.repark p).lane x = s.lane x) ∧
    (∀ x, (s.repark p).serving x = s.serving x) ∧ (∀ x, (s.repark p).link x = s.link x) ∧
    (∀ x y z, (s.repark p).entry? x y z = s.entry? x y z) := by
  simp [State.isRunning, State.now, State.mode, State.slot, State.lane, State.serving, State.link_eq, State.entry?]

@[simp] theorem State.markDeparted_keeps (p : Port) :
    (s.markDeparted p).phase = s.phase ∧ (s.markDeparted p).pending = s.pending ∧ (s.markDeparted p).time = s.time ∧
    (s.markDeparted p).mains = s.mains ∧ (s.markDeparted p).bank = s.bank ∧ (s.markDeparted p).account = s.account ∧
    (s.markDeparted p).ports = s.ports ∧ (s.markDeparted p).lsu = s.lsu ∧ (s.markDeparted p).wakes = s.wakes ∧
    (s.markDeparted p).tests = s.tests ∧ (s.markDeparted p).ring = s.ring ∧ (s.markDeparted p).slots = s.slots ∧
    (s.markDeparted p).oLink = s.oLink ∧ (s.markDeparted p).bLink = s.bLink ∧
    (s.markDeparted p).settings = s.settings ∧ (s.markDeparted p).store = s.store := by
  simp [State.markDeparted]

@[simp] theorem State.markDeparted_reads (p : Port) :
    (s.markDeparted p).isRunning = s.isRunning ∧ (s.markDeparted p).now = s.now ∧ (s.markDeparted p).mode = s.mode ∧
    (∀ x, (s.markDeparted p).port x = s.port x) ∧ (∀ x, (s.markDeparted p).slot x = s.slot x) ∧
    (∀ x, (s.markDeparted p).lane x = s.lane x) ∧ (∀ x, (s.markDeparted p).serving x = s.serving x) ∧
    (∀ x, (s.markDeparted p).link x = s.link x) ∧ (∀ x y z, (s.markDeparted p).entry? x y z = s.entry? x y z) := by
  simp [State.isRunning, State.now, State.mode, State.port, State.slot, State.lane, State.serving, State.link_eq, State.entry?]

@[simp] theorem State.setFeed_keeps (p : Port) (f : FeedState) :
    (s.setFeed p f).phase = s.phase ∧ (s.setFeed p f).pending = s.pending ∧ (s.setFeed p f).time = s.time ∧
    (s.setFeed p f).mains = s.mains ∧ (s.setFeed p f).bank = s.bank ∧ (s.setFeed p f).account = s.account ∧
    (s.setFeed p f).tests = s.tests ∧ (s.setFeed p f).ring = s.ring ∧ (s.setFeed p f).slots = s.slots ∧
    (s.setFeed p f).settings = s.settings ∧ (s.setFeed p f).store = s.store := by
  simp only [State.setFeed]
  (repeat' split) <;> simp

@[simp] theorem State.setFeed_reads (p : Port) (f : FeedState) :
    (s.setFeed p f).isRunning = s.isRunning ∧ (s.setFeed p f).now = s.now ∧ (s.setFeed p f).mode = s.mode ∧
    (∀ x, (s.setFeed p f).slot x = s.slot x) := by
  simp [State.isRunning, State.now, State.mode, State.slot]

@[simp] theorem State.clearRuns_keeps (p : Port) :
    (s.clearRuns p).phase = s.phase ∧ (s.clearRuns p).pending = s.pending ∧ (s.clearRuns p).time = s.time ∧
    (s.clearRuns p).mains = s.mains ∧ (s.clearRuns p).bank = s.bank ∧ (s.clearRuns p).account = s.account ∧
    (s.clearRuns p).budget = s.budget ∧ (s.clearRuns p).lsu = s.lsu ∧ (s.clearRuns p).wakes = s.wakes ∧
    (s.clearRuns p).tests = s.tests ∧ (s.clearRuns p).ring = s.ring ∧ (s.clearRuns p).slots = s.slots ∧
    (s.clearRuns p).oLink = s.oLink ∧ (s.clearRuns p).bLink = s.bLink ∧ (s.clearRuns p).settings = s.settings ∧
    (s.clearRuns p).store = s.store := by
  simp [State.clearRuns]

@[simp] theorem State.clearRuns_reads (p : Port) :
    (s.clearRuns p).isRunning = s.isRunning ∧ (s.clearRuns p).now = s.now ∧ (s.clearRuns p).mode = s.mode ∧
    (∀ x, (s.clearRuns p).slot x = s.slot x) ∧ (∀ x, (s.clearRuns p).lane x = s.lane x) ∧
    (∀ x, (s.clearRuns p).serving x = s.serving x) ∧ (∀ x, (s.clearRuns p).link x = s.link x) ∧
    (∀ x y z, (s.clearRuns p).entry? x y z = s.entry? x y z) := by
  simp [State.isRunning, State.now, State.mode, State.slot, State.lane, State.serving, State.link_eq, State.entry?]

@[simp] theorem State.request_keeps (p : Port) (k : RequestKind) (o : Origin) :
    (s.request p k o).phase = s.phase ∧ (s.request p k o).pending = s.pending ∧ (s.request p k o).time = s.time ∧
    (s.request p k o).mains = s.mains ∧ (s.request p k o).bank = s.bank ∧ (s.request p k o).account = s.account ∧
    (s.request p k o).budget = s.budget ∧ (s.request p k o).ports = s.ports ∧ (s.request p k o).wakes = s.wakes ∧
    (s.request p k o).tests = s.tests ∧ (s.request p k o).ring = s.ring ∧ (s.request p k o).slots = s.slots ∧
    (s.request p k o).settings = s.settings ∧ (s.request p k o).store = s.store := by
  simp only [State.request]
  (repeat' split) <;> simp

@[simp] theorem State.request_reads (p : Port) (k : RequestKind) (o : Origin) :
    (s.request p k o).isRunning = s.isRunning ∧ (s.request p k o).now = s.now ∧ (s.request p k o).mode = s.mode ∧
    (∀ x, (s.request p k o).port x = s.port x) ∧ (∀ x, (s.request p k o).slot x = s.slot x) := by
  simp [State.isRunning, State.now, State.mode, State.port, State.slot]

@[simp] theorem State.grantLane_keeps (i : LaneId) :
    (s.grantLane i).phase = s.phase ∧ (s.grantLane i).pending = s.pending ∧ (s.grantLane i).time = s.time ∧
    (s.grantLane i).mains = s.mains ∧ (s.grantLane i).bank = s.bank ∧ (s.grantLane i).account = s.account ∧
    (s.grantLane i).budget = s.budget ∧ (s.grantLane i).ports = s.ports ∧ (s.grantLane i).wakes = s.wakes ∧
    (s.grantLane i).tests = s.tests ∧ (s.grantLane i).ring = s.ring ∧ (s.grantLane i).slots = s.slots ∧
    (s.grantLane i).oLink = s.oLink ∧ (s.grantLane i).bLink = s.bLink ∧ (s.grantLane i).settings = s.settings ∧
    (s.grantLane i).store = s.store := by
  simp only [State.grantLane]
  (repeat' split) <;> simp

@[simp] theorem State.grantLane_reads (i : LaneId) :
    (s.grantLane i).isRunning = s.isRunning ∧ (s.grantLane i).now = s.now ∧ (s.grantLane i).mode = s.mode ∧
    (∀ x, (s.grantLane i).port x = s.port x) ∧ (∀ x, (s.grantLane i).slot x = s.slot x) ∧
    (∀ x, (s.grantLane i).link x = s.link x) := by
  simp [State.isRunning, State.now, State.mode, State.port, State.slot, State.link_eq]

@[simp] theorem State.grantLanes_keeps :
    (s.grantLanes).phase = s.phase ∧ (s.grantLanes).pending = s.pending ∧ (s.grantLanes).time = s.time ∧
    (s.grantLanes).mains = s.mains ∧ (s.grantLanes).bank = s.bank ∧ (s.grantLanes).account = s.account ∧
    (s.grantLanes).budget = s.budget ∧ (s.grantLanes).ports = s.ports ∧ (s.grantLanes).wakes = s.wakes ∧
    (s.grantLanes).tests = s.tests ∧ (s.grantLanes).ring = s.ring ∧ (s.grantLanes).slots = s.slots ∧
    (s.grantLanes).oLink = s.oLink ∧ (s.grantLanes).bLink = s.bLink ∧ (s.grantLanes).settings = s.settings ∧
    (s.grantLanes).store = s.store := by
  and_intros <;> exact foldl_keeps _ _ (fun _ _ => by simp) _ s

@[simp] theorem State.grantLanes_reads :
    (s.grantLanes).isRunning = s.isRunning ∧ (s.grantLanes).now = s.now ∧ (s.grantLanes).mode = s.mode ∧
    (∀ x, (s.grantLanes).port x = s.port x) ∧ (∀ x, (s.grantLanes).slot x = s.slot x) ∧
    (∀ x, (s.grantLanes).link x = s.link x) := by
  simp [State.isRunning, State.now, State.mode, State.port, State.slot, State.link_eq]

@[simp] theorem State.armDetectors_keeps :
    (s.armDetectors).phase = s.phase ∧ (s.armDetectors).pending = s.pending ∧ (s.armDetectors).time = s.time ∧
    (s.armDetectors).mains = s.mains ∧ (s.armDetectors).bank = s.bank ∧ (s.armDetectors).account = s.account ∧
    (s.armDetectors).budget = s.budget ∧ (s.armDetectors).ports = s.ports ∧ (s.armDetectors).wakes = s.wakes ∧
    (s.armDetectors).tests = s.tests ∧ (s.armDetectors).ring = s.ring ∧ (s.armDetectors).slots = s.slots ∧
    (s.armDetectors).oLink = s.oLink ∧ (s.armDetectors).bLink = s.bLink ∧ (s.armDetectors).settings = s.settings ∧
    (s.armDetectors).store = s.store := by
  simp [State.armDetectors]

@[simp] theorem State.armDetectors_reads :
    (s.armDetectors).isRunning = s.isRunning ∧ (s.armDetectors).now = s.now ∧ (s.armDetectors).mode = s.mode ∧
    (∀ x, (s.armDetectors).port x = s.port x) ∧ (∀ x, (s.armDetectors).slot x = s.slot x) ∧
    (∀ x, (s.armDetectors).link x = s.link x) := by
  simp [State.isRunning, State.now, State.mode, State.port, State.slot, State.link_eq]

@[simp] theorem State.arbitrate_keeps :
    (s.arbitrate).phase = s.phase ∧ (s.arbitrate).pending = s.pending ∧ (s.arbitrate).time = s.time ∧
    (s.arbitrate).mains = s.mains ∧ (s.arbitrate).bank = s.bank ∧ (s.arbitrate).account = s.account ∧
    (s.arbitrate).budget = s.budget ∧ (s.arbitrate).ports = s.ports ∧ (s.arbitrate).wakes = s.wakes ∧
    (s.arbitrate).tests = s.tests ∧ (s.arbitrate).ring = s.ring ∧ (s.arbitrate).slots = s.slots ∧
    (s.arbitrate).oLink = s.oLink ∧ (s.arbitrate).bLink = s.bLink ∧ (s.arbitrate).settings = s.settings ∧
    (s.arbitrate).store = s.store := by
  simp [State.arbitrate]

@[simp] theorem State.arbitrate_reads :
    (s.arbitrate).isRunning = s.isRunning ∧ (s.arbitrate).now = s.now ∧ (s.arbitrate).mode = s.mode ∧
    (∀ x, (s.arbitrate).port x = s.port x) ∧ (∀ x, (s.arbitrate).slot x = s.slot x) ∧
    (∀ x, (s.arbitrate).link x = s.link x) := by
  simp [State.isRunning, State.now, State.mode, State.port, State.slot, State.link_eq]

@[simp] theorem State.lineFailure_keeps (p : Port) :
    (s.lineFailure p).phase = s.phase ∧ (s.lineFailure p).pending = s.pending ∧ (s.lineFailure p).time = s.time ∧
    (s.lineFailure p).mains = s.mains ∧ (s.lineFailure p).bank = s.bank ∧ (s.lineFailure p).account = s.account ∧
    (s.lineFailure p).budget = s.budget ∧ (s.lineFailure p).lsu = s.lsu ∧ (s.lineFailure p).wakes = s.wakes ∧
    (s.lineFailure p).tests = s.tests ∧ (s.lineFailure p).ring = s.ring ∧ (s.lineFailure p).slots = s.slots ∧
    (s.lineFailure p).oLink = s.oLink ∧ (s.lineFailure p).bLink = s.bLink ∧ (s.lineFailure p).settings = s.settings ∧
    (s.lineFailure p).store = s.store := by
  simp [State.lineFailure]

@[simp] theorem State.lineFailure_reads (p : Port) :
    (s.lineFailure p).isRunning = s.isRunning ∧ (s.lineFailure p).now = s.now ∧ (s.lineFailure p).mode = s.mode ∧
    (∀ x, (s.lineFailure p).slot x = s.slot x) ∧ (∀ x, (s.lineFailure p).lane x = s.lane x) ∧
    (∀ x, (s.lineFailure p).serving x = s.serving x) ∧ (∀ x, (s.lineFailure p).link x = s.link x) ∧
    (∀ x y z, (s.lineFailure p).entry? x y z = s.entry? x y z) := by
  simp [State.isRunning, State.now, State.mode, State.slot, State.lane, State.serving, State.link_eq, State.entry?]

@[simp] theorem State.lineSuccess_keeps (p : Port) :
    (s.lineSuccess p).phase = s.phase ∧ (s.lineSuccess p).pending = s.pending ∧ (s.lineSuccess p).time = s.time ∧
    (s.lineSuccess p).mains = s.mains ∧ (s.lineSuccess p).bank = s.bank ∧ (s.lineSuccess p).account = s.account ∧
    (s.lineSuccess p).budget = s.budget ∧ (s.lineSuccess p).lsu = s.lsu ∧ (s.lineSuccess p).wakes = s.wakes ∧
    (s.lineSuccess p).tests = s.tests ∧ (s.lineSuccess p).ring = s.ring ∧ (s.lineSuccess p).slots = s.slots ∧
    (s.lineSuccess p).oLink = s.oLink ∧ (s.lineSuccess p).bLink = s.bLink ∧ (s.lineSuccess p).settings = s.settings ∧
    (s.lineSuccess p).store = s.store := by
  simp [State.lineSuccess]

@[simp] theorem State.lineSuccess_reads (p : Port) :
    (s.lineSuccess p).isRunning = s.isRunning ∧ (s.lineSuccess p).now = s.now ∧ (s.lineSuccess p).mode = s.mode ∧
    (∀ x, (s.lineSuccess p).slot x = s.slot x) ∧ (∀ x, (s.lineSuccess p).lane x = s.lane x) ∧
    (∀ x, (s.lineSuccess p).serving x = s.serving x) ∧ (∀ x, (s.lineSuccess p).link x = s.link x) ∧
    (∀ x y z, (s.lineSuccess p).entry? x y z = s.entry? x y z) := by
  simp [State.isRunning, State.now, State.mode, State.slot, State.lane, State.serving, State.link_eq, State.entry?]

@[simp] theorem State.clearLine_keeps (p : Port) :
    (s.clearLine p).phase = s.phase ∧ (s.clearLine p).pending = s.pending ∧ (s.clearLine p).time = s.time ∧
    (s.clearLine p).mains = s.mains ∧ (s.clearLine p).bank = s.bank ∧ (s.clearLine p).account = s.account ∧
    (s.clearLine p).budget = s.budget ∧ (s.clearLine p).lsu = s.lsu ∧ (s.clearLine p).wakes = s.wakes ∧
    (s.clearLine p).tests = s.tests ∧ (s.clearLine p).ring = s.ring ∧ (s.clearLine p).slots = s.slots ∧
    (s.clearLine p).oLink = s.oLink ∧ (s.clearLine p).bLink = s.bLink ∧ (s.clearLine p).settings = s.settings ∧
    (s.clearLine p).store = s.store := by
  simp [State.clearLine]

@[simp] theorem State.clearLine_reads (p : Port) :
    (s.clearLine p).isRunning = s.isRunning ∧ (s.clearLine p).now = s.now ∧ (s.clearLine p).mode = s.mode ∧
    (∀ x, (s.clearLine p).slot x = s.slot x) ∧ (∀ x, (s.clearLine p).lane x = s.lane x) ∧
    (∀ x, (s.clearLine p).serving x = s.serving x) ∧ (∀ x, (s.clearLine p).link x = s.link x) ∧
    (∀ x y z, (s.clearLine p).entry? x y z = s.entry? x y z) := by
  simp [State.isRunning, State.now, State.mode, State.slot, State.lane, State.serving, State.link_eq, State.entry?]

@[simp] theorem State.judgeRefusal_keeps :
    (s.judgeRefusal).phase = s.phase ∧ (s.judgeRefusal).pending = s.pending ∧ (s.judgeRefusal).time = s.time ∧
    (s.judgeRefusal).mains = s.mains ∧ (s.judgeRefusal).bank = s.bank ∧ (s.judgeRefusal).account = s.account ∧
    (s.judgeRefusal).budget = s.budget ∧ (s.judgeRefusal).ports = s.ports ∧ (s.judgeRefusal).lsu = s.lsu ∧
    (s.judgeRefusal).wakes = s.wakes ∧ (s.judgeRefusal).tests = s.tests ∧ (s.judgeRefusal).slots = s.slots ∧
    (s.judgeRefusal).oLink = s.oLink ∧ (s.judgeRefusal).bLink = s.bLink ∧ (s.judgeRefusal).settings = s.settings ∧
    (s.judgeRefusal).store = s.store := by
  simp [State.judgeRefusal]

@[simp] theorem State.judgeRefusal_reads :
    (s.judgeRefusal).isRunning = s.isRunning ∧ (s.judgeRefusal).now = s.now ∧ (s.judgeRefusal).mode = s.mode ∧
    (∀ x, (s.judgeRefusal).port x = s.port x) ∧ (∀ x, (s.judgeRefusal).slot x = s.slot x) ∧
    (∀ x, (s.judgeRefusal).lane x = s.lane x) ∧ (∀ x, (s.judgeRefusal).serving x = s.serving x) ∧
    (∀ x, (s.judgeRefusal).link x = s.link x) ∧ (∀ x y z, (s.judgeRefusal).entry? x y z = s.entry? x y z) := by
  simp [State.isRunning, State.now, State.mode, State.port, State.slot, State.lane, State.serving, State.link_eq, State.entry?]

@[simp] theorem State.sweepLink_keeps (r : List TestRecord) (k : Nat) (l : Link) :
    (s.sweepLink r k l).phase = s.phase ∧ (s.sweepLink r k l).pending = s.pending ∧
    (s.sweepLink r k l).time = s.time ∧ (s.sweepLink r k l).mains = s.mains ∧ (s.sweepLink r k l).bank = s.bank ∧
    (s.sweepLink r k l).account = s.account ∧ (s.sweepLink r k l).budget = s.budget ∧
    (s.sweepLink r k l).ports = s.ports ∧ (s.sweepLink r k l).lsu = s.lsu ∧ (s.sweepLink r k l).wakes = s.wakes ∧
    (s.sweepLink r k l).tests = s.tests ∧ (s.sweepLink r k l).ring = s.ring ∧ (s.sweepLink r k l).slots = s.slots ∧
    (s.sweepLink r k l).settings = s.settings ∧ (s.sweepLink r k l).store = s.store := by
  simp only [State.sweepLink]
  (repeat' split) <;> simp

@[simp] theorem State.sweepLink_reads (r : List TestRecord) (k : Nat) (l : Link) :
    (s.sweepLink r k l).isRunning = s.isRunning ∧ (s.sweepLink r k l).now = s.now ∧
    (s.sweepLink r k l).mode = s.mode ∧ (∀ x, (s.sweepLink r k l).port x = s.port x) ∧
    (∀ x, (s.sweepLink r k l).slot x = s.slot x) ∧ (∀ x, (s.sweepLink r k l).lane x = s.lane x) ∧
    (∀ x, (s.sweepLink r k l).serving x = s.serving x) ∧
    (∀ x y z, (s.sweepLink r k l).entry? x y z = s.entry? x y z) := by
  simp [State.isRunning, State.now, State.mode, State.port, State.slot, State.lane, State.serving, State.entry?]

@[simp] theorem State.sweep_keeps (k : Nat) :
    (s.sweep k).phase = s.phase ∧ (s.sweep k).pending = s.pending ∧ (s.sweep k).time = s.time ∧
    (s.sweep k).mains = s.mains ∧ (s.sweep k).bank = s.bank ∧ (s.sweep k).account = s.account ∧
    (s.sweep k).budget = s.budget ∧ (s.sweep k).ports = s.ports ∧ (s.sweep k).lsu = s.lsu ∧
    (s.sweep k).wakes = s.wakes ∧ (s.sweep k).tests = s.tests ∧ (s.sweep k).slots = s.slots ∧
    (s.sweep k).settings = s.settings ∧ (s.sweep k).store = s.store := by
  simp [State.sweep]

@[simp] theorem State.sweep_reads (k : Nat) :
    (s.sweep k).isRunning = s.isRunning ∧ (s.sweep k).now = s.now ∧ (s.sweep k).mode = s.mode ∧
    (∀ x, (s.sweep k).port x = s.port x) ∧ (∀ x, (s.sweep k).slot x = s.slot x) ∧
    (∀ x, (s.sweep k).lane x = s.lane x) ∧ (∀ x, (s.sweep k).serving x = s.serving x) ∧
    (∀ x y z, (s.sweep k).entry? x y z = s.entry? x y z) := by
  simp [State.isRunning, State.now, State.mode, State.port, State.slot, State.lane, State.serving, State.entry?]

@[simp] theorem State.holdSweep_keeps :
    (s.holdSweep).phase = s.phase ∧ (s.holdSweep).pending = s.pending ∧ (s.holdSweep).time = s.time ∧
    (s.holdSweep).mains = s.mains ∧ (s.holdSweep).bank = s.bank ∧ (s.holdSweep).account = s.account ∧
    (s.holdSweep).budget = s.budget ∧ (s.holdSweep).ports = s.ports ∧ (s.holdSweep).lsu = s.lsu ∧
    (s.holdSweep).wakes = s.wakes ∧ (s.holdSweep).tests = s.tests ∧ (s.holdSweep).slots = s.slots ∧
    (s.holdSweep).settings = s.settings ∧ (s.holdSweep).store = s.store := by
  simp only [State.holdSweep]
  (repeat' split) <;> simp

@[simp] theorem State.holdSweep_reads :
    (s.holdSweep).isRunning = s.isRunning ∧ (s.holdSweep).now = s.now ∧ (s.holdSweep).mode = s.mode ∧
    (∀ x, (s.holdSweep).port x = s.port x) ∧ (∀ x, (s.holdSweep).slot x = s.slot x) ∧
    (∀ x, (s.holdSweep).lane x = s.lane x) ∧ (∀ x, (s.holdSweep).serving x = s.serving x) ∧
    (∀ x y z, (s.holdSweep).entry? x y z = s.entry? x y z) := by
  simp [State.isRunning, State.now, State.mode, State.port, State.slot, State.lane, State.serving, State.entry?]

@[simp] theorem State.appendRecord_keeps (r : TestRecord) :
    (s.appendRecord r).phase = s.phase ∧ (s.appendRecord r).pending = s.pending ∧ (s.appendRecord r).time = s.time ∧
    (s.appendRecord r).mains = s.mains ∧ (s.appendRecord r).bank = s.bank ∧ (s.appendRecord r).account = s.account ∧
    (s.appendRecord r).budget = s.budget ∧ (s.appendRecord r).lsu = s.lsu ∧ (s.appendRecord r).wakes = s.wakes ∧
    (s.appendRecord r).tests = s.tests ∧ (s.appendRecord r).slots = s.slots ∧
    (s.appendRecord r).settings = s.settings ∧ (s.appendRecord r).store = s.store := by
  simp only [State.appendRecord]
  (repeat' split) <;> simp

@[simp] theorem State.appendRecord_reads (r : TestRecord) :
    (s.appendRecord r).isRunning = s.isRunning ∧ (s.appendRecord r).now = s.now ∧ (s.appendRecord r).mode = s.mode ∧
    (∀ x, (s.appendRecord r).slot x = s.slot x) ∧ (∀ x, (s.appendRecord r).lane x = s.lane x) ∧
    (∀ x, (s.appendRecord r).serving x = s.serving x) ∧
    (∀ x y z, (s.appendRecord r).entry? x y z = s.entry? x y z) := by
  simp [State.isRunning, State.now, State.mode, State.slot, State.lane, State.serving, State.entry?]

@[simp] theorem State.notifyOwner_keeps (o : Option Link) :
    (s.notifyOwner o).phase = s.phase ∧ (s.notifyOwner o).pending = s.pending ∧ (s.notifyOwner o).time = s.time ∧
    (s.notifyOwner o).mains = s.mains ∧ (s.notifyOwner o).bank = s.bank ∧ (s.notifyOwner o).account = s.account ∧
    (s.notifyOwner o).budget = s.budget ∧ (s.notifyOwner o).ports = s.ports ∧ (s.notifyOwner o).lsu = s.lsu ∧
    (s.notifyOwner o).wakes = s.wakes ∧ (s.notifyOwner o).tests = s.tests ∧ (s.notifyOwner o).ring = s.ring ∧
    (s.notifyOwner o).slots = s.slots ∧ (s.notifyOwner o).settings = s.settings ∧
    (s.notifyOwner o).store = s.store := by
  simp only [State.notifyOwner]
  (repeat' split) <;> simp

@[simp] theorem State.notifyOwner_reads (o : Option Link) :
    (s.notifyOwner o).isRunning = s.isRunning ∧ (s.notifyOwner o).now = s.now ∧ (s.notifyOwner o).mode = s.mode ∧
    (∀ x, (s.notifyOwner o).port x = s.port x) ∧ (∀ x, (s.notifyOwner o).slot x = s.slot x) ∧
    (∀ x, (s.notifyOwner o).lane x = s.lane x) ∧ (∀ x, (s.notifyOwner o).serving x = s.serving x) ∧
    (∀ x y z, (s.notifyOwner o).entry? x y z = s.entry? x y z) := by
  simp [State.isRunning, State.now, State.mode, State.port, State.slot, State.lane, State.serving, State.entry?]

@[simp] theorem State.deliver_keeps (p : Port) (r : Reply) :
    (s.deliver p r).phase = s.phase ∧ (s.deliver p r).pending = s.pending ∧ (s.deliver p r).time = s.time ∧
    (s.deliver p r).mains = s.mains ∧ (s.deliver p r).bank = s.bank ∧ (s.deliver p r).account = s.account ∧
    (s.deliver p r).budget = s.budget ∧ (s.deliver p r).ports = s.ports ∧ (s.deliver p r).lsu = s.lsu ∧
    (s.deliver p r).wakes = s.wakes ∧ (s.deliver p r).tests = s.tests ∧ (s.deliver p r).ring = s.ring ∧
    (s.deliver p r).settings = s.settings ∧ (s.deliver p r).store = s.store := by
  simp only [State.deliver]
  (repeat' split) <;> simp

@[simp] theorem State.deliver_reads (p : Port) (r : Reply) :
    (s.deliver p r).isRunning = s.isRunning ∧ (s.deliver p r).now = s.now ∧ (s.deliver p r).mode = s.mode ∧
    (∀ x, (s.deliver p r).port x = s.port x) ∧ (∀ x, (s.deliver p r).lane x = s.lane x) ∧
    (∀ x, (s.deliver p r).serving x = s.serving x) ∧ (∀ x y z, (s.deliver p r).entry? x y z = s.entry? x y z) := by
  simp [State.isRunning, State.now, State.mode, State.port, State.lane, State.serving, State.entry?]

@[simp] theorem State.failWake_keeps (p : Port) :
    (s.failWake p).phase = s.phase ∧ (s.failWake p).pending = s.pending ∧ (s.failWake p).time = s.time ∧
    (s.failWake p).mains = s.mains ∧ (s.failWake p).bank = s.bank ∧ (s.failWake p).account = s.account ∧
    (s.failWake p).tests = s.tests ∧ (s.failWake p).ring = s.ring ∧ (s.failWake p).slots = s.slots ∧
    (s.failWake p).settings = s.settings ∧ (s.failWake p).store = s.store := by
  simp [State.failWake]

@[simp] theorem State.failWake_reads (p : Port) :
    (s.failWake p).isRunning = s.isRunning ∧ (s.failWake p).now = s.now ∧ (s.failWake p).mode = s.mode ∧
    (∀ x, (s.failWake p).slot x = s.slot x) := by
  simp [State.isRunning, State.now, State.mode, State.slot]

@[simp] theorem State.endWake_keeps (p : Port) :
    (s.endWake p).phase = s.phase ∧ (s.endWake p).pending = s.pending ∧ (s.endWake p).time = s.time ∧
    (s.endWake p).mains = s.mains ∧ (s.endWake p).bank = s.bank ∧ (s.endWake p).account = s.account ∧
    (s.endWake p).tests = s.tests ∧ (s.endWake p).ring = s.ring ∧ (s.endWake p).slots = s.slots ∧
    (s.endWake p).oLink = s.oLink ∧ (s.endWake p).bLink = s.bLink ∧ (s.endWake p).settings = s.settings ∧
    (s.endWake p).store = s.store := by
  simp [State.endWake]

@[simp] theorem State.endWake_reads (p : Port) :
    (s.endWake p).isRunning = s.isRunning ∧ (s.endWake p).now = s.now ∧ (s.endWake p).mode = s.mode ∧
    (∀ x, (s.endWake p).slot x = s.slot x) ∧ (∀ x, (s.endWake p).link x = s.link x) := by
  simp [State.isRunning, State.now, State.mode, State.slot, State.link_eq]

@[simp] theorem State.requestWake_keeps (p : Port) :
    (s.requestWake p).phase = s.phase ∧ (s.requestWake p).pending = s.pending ∧ (s.requestWake p).time = s.time ∧
    (s.requestWake p).mains = s.mains ∧ (s.requestWake p).bank = s.bank ∧ (s.requestWake p).account = s.account ∧
    (s.requestWake p).tests = s.tests ∧ (s.requestWake p).ring = s.ring ∧ (s.requestWake p).slots = s.slots ∧
    (s.requestWake p).settings = s.settings ∧ (s.requestWake p).store = s.store := by
  simp only [State.requestWake]
  (repeat' split) <;> simp

@[simp] theorem State.requestWake_reads (p : Port) :
    (s.requestWake p).isRunning = s.isRunning ∧ (s.requestWake p).now = s.now ∧ (s.requestWake p).mode = s.mode ∧
    (∀ x, (s.requestWake p).slot x = s.slot x) := by
  simp [State.isRunning, State.now, State.mode, State.slot]

@[simp] theorem State.putWake_keeps (p : Port) (g : WakeStage) (e : Nat) :
    (s.putWake p g e).phase = s.phase ∧ (s.putWake p g e).pending = s.pending ∧ (s.putWake p g e).time = s.time ∧
    (s.putWake p g e).mains = s.mains ∧ (s.putWake p g e).bank = s.bank ∧ (s.putWake p g e).account = s.account ∧
    (s.putWake p g e).budget = s.budget ∧ (s.putWake p g e).lsu = s.lsu ∧ (s.putWake p g e).tests = s.tests ∧
    (s.putWake p g e).ring = s.ring ∧ (s.putWake p g e).slots = s.slots ∧ (s.putWake p g e).oLink = s.oLink ∧
    (s.putWake p g e).bLink = s.bLink ∧ (s.putWake p g e).settings = s.settings ∧
    (s.putWake p g e).store = s.store := by
  simp only [State.putWake]
  (repeat' split) <;> simp

@[simp] theorem State.putWake_reads (p : Port) (g : WakeStage) (e : Nat) :
    (s.putWake p g e).isRunning = s.isRunning ∧ (s.putWake p g e).now = s.now ∧ (s.putWake p g e).mode = s.mode ∧
    (∀ x, (s.putWake p g e).slot x = s.slot x) ∧ (∀ x, (s.putWake p g e).lane x = s.lane x) ∧
    (∀ x, (s.putWake p g e).serving x = s.serving x) ∧ (∀ x, (s.putWake p g e).link x = s.link x) ∧
    (∀ x y z, (s.putWake p g e).entry? x y z = s.entry? x y z) := by
  simp [State.isRunning, State.now, State.mode, State.slot, State.lane, State.serving, State.link_eq, State.entry?]

@[simp] theorem State.makeWake_keeps (p : Port) :
    (s.makeWake p).phase = s.phase ∧ (s.makeWake p).pending = s.pending ∧ (s.makeWake p).time = s.time ∧
    (s.makeWake p).mains = s.mains ∧ (s.makeWake p).bank = s.bank ∧ (s.makeWake p).account = s.account ∧
    (s.makeWake p).tests = s.tests ∧ (s.makeWake p).ring = s.ring ∧ (s.makeWake p).slots = s.slots ∧
    (s.makeWake p).settings = s.settings ∧ (s.makeWake p).store = s.store := by
  simp only [State.makeWake]
  (repeat' split) <;> simp

@[simp] theorem State.makeWake_reads (p : Port) :
    (s.makeWake p).isRunning = s.isRunning ∧ (s.makeWake p).now = s.now ∧ (s.makeWake p).mode = s.mode ∧
    (∀ x, (s.makeWake p).slot x = s.slot x) := by
  simp [State.isRunning, State.now, State.mode, State.slot]

@[simp] theorem State.takeWake_keeps (p : Port) (k : PassKind) :
    (s.takeWake p k).phase = s.phase ∧ (s.takeWake p k).pending = s.pending ∧ (s.takeWake p k).time = s.time ∧
    (s.takeWake p k).mains = s.mains ∧ (s.takeWake p k).bank = s.bank ∧ (s.takeWake p k).account = s.account ∧
    (s.takeWake p k).tests = s.tests ∧ (s.takeWake p k).ring = s.ring ∧ (s.takeWake p k).slots = s.slots ∧
    (s.takeWake p k).settings = s.settings ∧ (s.takeWake p k).store = s.store := by
  simp only [State.takeWake]
  (repeat' split) <;> simp

@[simp] theorem State.takeWake_reads (p : Port) (k : PassKind) :
    (s.takeWake p k).isRunning = s.isRunning ∧ (s.takeWake p k).now = s.now ∧ (s.takeWake p k).mode = s.mode ∧
    (∀ x, (s.takeWake p k).slot x = s.slot x) := by
  simp [State.isRunning, State.now, State.mode, State.slot]

@[simp] theorem State.autoWake_keeps (p : Port) :
    (s.autoWake p).phase = s.phase ∧ (s.autoWake p).pending = s.pending ∧ (s.autoWake p).time = s.time ∧
    (s.autoWake p).mains = s.mains ∧ (s.autoWake p).bank = s.bank ∧ (s.autoWake p).account = s.account ∧
    (s.autoWake p).tests = s.tests ∧ (s.autoWake p).ring = s.ring ∧ (s.autoWake p).slots = s.slots ∧
    (s.autoWake p).settings = s.settings ∧ (s.autoWake p).store = s.store := by
  simp only [State.autoWake]
  (repeat' split) <;> simp

@[simp] theorem State.autoWake_reads (p : Port) :
    (s.autoWake p).isRunning = s.isRunning ∧ (s.autoWake p).now = s.now ∧ (s.autoWake p).mode = s.mode ∧
    (∀ x, (s.autoWake p).slot x = s.slot x) := by
  simp [State.isRunning, State.now, State.mode, State.slot]

@[simp] theorem State.beginPass_keeps (c : BitVec 8) :
    (s.beginPass c).phase = s.phase ∧ (s.beginPass c).pending = s.pending ∧ (s.beginPass c).time = s.time ∧
    (s.beginPass c).mains = s.mains ∧ (s.beginPass c).bank = s.bank ∧ (s.beginPass c).account = s.account ∧
    (s.beginPass c).ports = s.ports ∧ (s.beginPass c).lsu = s.lsu ∧ (s.beginPass c).wakes = s.wakes ∧
    (s.beginPass c).tests = s.tests ∧ (s.beginPass c).ring = s.ring ∧ (s.beginPass c).slots = s.slots ∧
    (s.beginPass c).oLink = s.oLink ∧ (s.beginPass c).bLink = s.bLink ∧ (s.beginPass c).settings = s.settings ∧
    (s.beginPass c).store = s.store := by
  simp [State.beginPass]

@[simp] theorem State.beginPass_reads (c : BitVec 8) :
    (s.beginPass c).isRunning = s.isRunning ∧ (s.beginPass c).now = s.now ∧ (s.beginPass c).mode = s.mode ∧
    (∀ x, (s.beginPass c).port x = s.port x) ∧ (∀ x, (s.beginPass c).slot x = s.slot x) ∧
    (∀ x, (s.beginPass c).lane x = s.lane x) ∧ (∀ x, (s.beginPass c).serving x = s.serving x) ∧
    (∀ x, (s.beginPass c).link x = s.link x) ∧ (∀ x y z, (s.beginPass c).entry? x y z = s.entry? x y z) := by
  simp [State.isRunning, State.now, State.mode, State.port, State.slot, State.lane, State.serving, State.link_eq, State.entry?]

@[simp] theorem State.abandonPass_keeps :
    (s.abandonPass).phase = s.phase ∧ (s.abandonPass).pending = s.pending ∧ (s.abandonPass).time = s.time ∧
    (s.abandonPass).mains = s.mains ∧ (s.abandonPass).bank = s.bank ∧ (s.abandonPass).account = s.account ∧
    (s.abandonPass).ports = s.ports ∧ (s.abandonPass).lsu = s.lsu ∧ (s.abandonPass).wakes = s.wakes ∧
    (s.abandonPass).tests = s.tests ∧ (s.abandonPass).ring = s.ring ∧ (s.abandonPass).slots = s.slots ∧
    (s.abandonPass).oLink = s.oLink ∧ (s.abandonPass).bLink = s.bLink ∧ (s.abandonPass).settings = s.settings ∧
    (s.abandonPass).store = s.store := by
  simp [State.abandonPass]

@[simp] theorem State.abandonPass_reads :
    (s.abandonPass).isRunning = s.isRunning ∧ (s.abandonPass).now = s.now ∧ (s.abandonPass).mode = s.mode ∧
    (∀ x, (s.abandonPass).port x = s.port x) ∧ (∀ x, (s.abandonPass).slot x = s.slot x) ∧
    (∀ x, (s.abandonPass).lane x = s.lane x) ∧ (∀ x, (s.abandonPass).serving x = s.serving x) ∧
    (∀ x, (s.abandonPass).link x = s.link x) ∧ (∀ x y z, (s.abandonPass).entry? x y z = s.entry? x y z) := by
  simp [State.isRunning, State.now, State.mode, State.port, State.slot, State.lane, State.serving, State.link_eq, State.entry?]

@[simp] theorem State.flushPass_keeps :
    (s.flushPass).phase = s.phase ∧ (s.flushPass).pending = s.pending ∧ (s.flushPass).time = s.time ∧
    (s.flushPass).mains = s.mains ∧ (s.flushPass).bank = s.bank ∧ (s.flushPass).account = s.account ∧
    (s.flushPass).ports = s.ports ∧ (s.flushPass).lsu = s.lsu ∧ (s.flushPass).wakes = s.wakes ∧
    (s.flushPass).tests = s.tests ∧ (s.flushPass).ring = s.ring ∧ (s.flushPass).slots = s.slots ∧
    (s.flushPass).oLink = s.oLink ∧ (s.flushPass).bLink = s.bLink ∧ (s.flushPass).settings = s.settings ∧
    (s.flushPass).store = s.store := by
  simp only [State.flushPass]
  (repeat' split) <;> simp

@[simp] theorem State.flushPass_reads :
    (s.flushPass).isRunning = s.isRunning ∧ (s.flushPass).now = s.now ∧ (s.flushPass).mode = s.mode ∧
    (∀ x, (s.flushPass).port x = s.port x) ∧ (∀ x, (s.flushPass).slot x = s.slot x) ∧
    (∀ x, (s.flushPass).lane x = s.lane x) ∧ (∀ x, (s.flushPass).serving x = s.serving x) ∧
    (∀ x, (s.flushPass).link x = s.link x) ∧ (∀ x y z, (s.flushPass).entry? x y z = s.entry? x y z) := by
  simp [State.isRunning, State.now, State.mode, State.port, State.slot, State.lane, State.serving, State.link_eq, State.entry?]

@[simp] theorem State.modTest_keeps (p : Port) (f : TestContext → TestContext) :
    (s.modTest p f).phase = s.phase ∧ (s.modTest p f).pending = s.pending ∧ (s.modTest p f).time = s.time ∧
    (s.modTest p f).mains = s.mains ∧ (s.modTest p f).bank = s.bank ∧ (s.modTest p f).account = s.account ∧
    (s.modTest p f).budget = s.budget ∧ (s.modTest p f).ports = s.ports ∧ (s.modTest p f).lsu = s.lsu ∧
    (s.modTest p f).wakes = s.wakes ∧ (s.modTest p f).ring = s.ring ∧ (s.modTest p f).slots = s.slots ∧
    (s.modTest p f).oLink = s.oLink ∧ (s.modTest p f).bLink = s.bLink ∧ (s.modTest p f).settings = s.settings ∧
    (s.modTest p f).store = s.store := by
  simp [State.modTest]

@[simp] theorem State.modTest_reads (p : Port) (f : TestContext → TestContext) :
    (s.modTest p f).isRunning = s.isRunning ∧ (s.modTest p f).now = s.now ∧ (s.modTest p f).mode = s.mode ∧
    (∀ x, (s.modTest p f).port x = s.port x) ∧ (∀ x, (s.modTest p f).slot x = s.slot x) ∧
    (∀ x, (s.modTest p f).lane x = s.lane x) ∧ (∀ x, (s.modTest p f).serving x = s.serving x) ∧
    (∀ x, (s.modTest p f).link x = s.link x) ∧ (∀ x y z, (s.modTest p f).entry? x y z = s.entry? x y z) := by
  simp [State.isRunning, State.now, State.mode, State.port, State.slot, State.lane, State.serving, State.link_eq, State.entry?]

@[simp] theorem State.dequeueTest_keeps (p : Port) :
    (s.dequeueTest p).phase = s.phase ∧ (s.dequeueTest p).pending = s.pending ∧ (s.dequeueTest p).time = s.time ∧
    (s.dequeueTest p).mains = s.mains ∧ (s.dequeueTest p).bank = s.bank ∧ (s.dequeueTest p).account = s.account ∧
    (s.dequeueTest p).budget = s.budget ∧ (s.dequeueTest p).ports = s.ports ∧ (s.dequeueTest p).lsu = s.lsu ∧
    (s.dequeueTest p).wakes = s.wakes ∧ (s.dequeueTest p).ring = s.ring ∧ (s.dequeueTest p).slots = s.slots ∧
    (s.dequeueTest p).oLink = s.oLink ∧ (s.dequeueTest p).bLink = s.bLink ∧ (s.dequeueTest p).settings = s.settings ∧
    (s.dequeueTest p).store = s.store := by
  simp [State.dequeueTest]

@[simp] theorem State.dequeueTest_reads (p : Port) :
    (s.dequeueTest p).isRunning = s.isRunning ∧ (s.dequeueTest p).now = s.now ∧ (s.dequeueTest p).mode = s.mode ∧
    (∀ x, (s.dequeueTest p).port x = s.port x) ∧ (∀ x, (s.dequeueTest p).slot x = s.slot x) ∧
    (∀ x, (s.dequeueTest p).lane x = s.lane x) ∧ (∀ x, (s.dequeueTest p).serving x = s.serving x) ∧
    (∀ x, (s.dequeueTest p).link x = s.link x) ∧ (∀ x y z, (s.dequeueTest p).entry? x y z = s.entry? x y z) := by
  simp [State.isRunning, State.now, State.mode, State.port, State.slot, State.lane, State.serving, State.link_eq, State.entry?]

@[simp] theorem State.enqueueTest_keeps (p : Port) (o : TestOrigin) :
    (s.enqueueTest p o).phase = s.phase ∧ (s.enqueueTest p o).pending = s.pending ∧
    (s.enqueueTest p o).time = s.time ∧ (s.enqueueTest p o).mains = s.mains ∧ (s.enqueueTest p o).bank = s.bank ∧
    (s.enqueueTest p o).account = s.account ∧ (s.enqueueTest p o).budget = s.budget ∧
    (s.enqueueTest p o).ports = s.ports ∧ (s.enqueueTest p o).lsu = s.lsu ∧ (s.enqueueTest p o).wakes = s.wakes ∧
    (s.enqueueTest p o).ring = s.ring ∧ (s.enqueueTest p o).slots = s.slots ∧ (s.enqueueTest p o).oLink = s.oLink ∧
    (s.enqueueTest p o).bLink = s.bLink ∧ (s.enqueueTest p o).settings = s.settings ∧
    (s.enqueueTest p o).store = s.store := by
  simp [State.enqueueTest]

@[simp] theorem State.enqueueTest_reads (p : Port) (o : TestOrigin) :
    (s.enqueueTest p o).isRunning = s.isRunning ∧ (s.enqueueTest p o).now = s.now ∧
    (s.enqueueTest p o).mode = s.mode ∧ (∀ x, (s.enqueueTest p o).port x = s.port x) ∧
    (∀ x, (s.enqueueTest p o).slot x = s.slot x) ∧ (∀ x, (s.enqueueTest p o).lane x = s.lane x) ∧
    (∀ x, (s.enqueueTest p o).serving x = s.serving x) ∧ (∀ x, (s.enqueueTest p o).link x = s.link x) ∧
    (∀ x y z, (s.enqueueTest p o).entry? x y z = s.entry? x y z) := by
  simp [State.isRunning, State.now, State.mode, State.port, State.slot, State.lane, State.serving, State.link_eq, State.entry?]

@[simp] theorem State.endTest_keeps (p : Port) (o : TestOutcome) :
    (s.endTest p o).phase = s.phase ∧ (s.endTest p o).pending = s.pending ∧ (s.endTest p o).time = s.time ∧
    (s.endTest p o).mains = s.mains ∧ (s.endTest p o).bank = s.bank ∧ (s.endTest p o).account = s.account ∧
    (s.endTest p o).budget = s.budget ∧ (s.endTest p o).lsu = s.lsu ∧ (s.endTest p o).wakes = s.wakes ∧
    (s.endTest p o).slots = s.slots ∧ (s.endTest p o).settings = s.settings ∧ (s.endTest p o).store = s.store := by
  simp only [State.endTest]
  (repeat' split) <;> simp

@[simp] theorem State.endTest_reads (p : Port) (o : TestOutcome) :
    (s.endTest p o).isRunning = s.isRunning ∧ (s.endTest p o).now = s.now ∧ (s.endTest p o).mode = s.mode ∧
    (∀ x, (s.endTest p o).slot x = s.slot x) ∧ (∀ x, (s.endTest p o).lane x = s.lane x) ∧
    (∀ x, (s.endTest p o).serving x = s.serving x) ∧ (∀ x y z, (s.endTest p o).entry? x y z = s.entry? x y z) := by
  simp [State.isRunning, State.now, State.mode, State.slot, State.lane, State.serving, State.entry?]

@[simp] theorem State.leaveTesting_keeps (p : Port) :
    (s.leaveTesting p).phase = s.phase ∧ (s.leaveTesting p).pending = s.pending ∧ (s.leaveTesting p).time = s.time ∧
    (s.leaveTesting p).mains = s.mains ∧ (s.leaveTesting p).bank = s.bank ∧ (s.leaveTesting p).account = s.account ∧
    (s.leaveTesting p).tests = s.tests ∧ (s.leaveTesting p).ring = s.ring ∧ (s.leaveTesting p).slots = s.slots ∧
    (s.leaveTesting p).settings = s.settings ∧ (s.leaveTesting p).store = s.store := by
  simp only [State.leaveTesting]
  (repeat' split) <;> simp

@[simp] theorem State.leaveTesting_reads (p : Port) :
    (s.leaveTesting p).isRunning = s.isRunning ∧ (s.leaveTesting p).now = s.now ∧ (s.leaveTesting p).mode = s.mode ∧
    (∀ x, (s.leaveTesting p).slot x = s.slot x) := by
  simp [State.isRunning, State.now, State.mode, State.slot]

@[simp] theorem State.loseTest_keeps (p : Port) :
    (s.loseTest p).phase = s.phase ∧ (s.loseTest p).pending = s.pending ∧ (s.loseTest p).time = s.time ∧
    (s.loseTest p).mains = s.mains ∧ (s.loseTest p).bank = s.bank ∧ (s.loseTest p).account = s.account ∧
    (s.loseTest p).slots = s.slots ∧ (s.loseTest p).settings = s.settings ∧ (s.loseTest p).store = s.store := by
  simp [State.loseTest]

@[simp] theorem State.loseTest_reads (p : Port) :
    (s.loseTest p).isRunning = s.isRunning ∧ (s.loseTest p).now = s.now ∧ (s.loseTest p).mode = s.mode ∧
    (∀ x, (s.loseTest p).slot x = s.slot x) := by
  simp [State.isRunning, State.now, State.mode, State.slot]

@[simp] theorem State.failTest_keeps (p : Port) :
    (s.failTest p).phase = s.phase ∧ (s.failTest p).pending = s.pending ∧ (s.failTest p).time = s.time ∧
    (s.failTest p).mains = s.mains ∧ (s.failTest p).bank = s.bank ∧ (s.failTest p).account = s.account ∧
    (s.failTest p).slots = s.slots ∧ (s.failTest p).settings = s.settings ∧ (s.failTest p).store = s.store := by
  simp only [State.failTest]
  (repeat' split) <;> simp

@[simp] theorem State.failTest_reads (p : Port) :
    (s.failTest p).isRunning = s.isRunning ∧ (s.failTest p).now = s.now ∧ (s.failTest p).mode = s.mode ∧
    (∀ x, (s.failTest p).slot x = s.slot x) := by
  simp [State.isRunning, State.now, State.mode, State.slot]

@[simp] theorem State.requestTest_keeps (p : Port) (k : RequestKind) :
    (s.requestTest p k).phase = s.phase ∧ (s.requestTest p k).pending = s.pending ∧
    (s.requestTest p k).time = s.time ∧ (s.requestTest p k).mains = s.mains ∧ (s.requestTest p k).bank = s.bank ∧
    (s.requestTest p k).account = s.account ∧ (s.requestTest p k).slots = s.slots ∧
    (s.requestTest p k).settings = s.settings ∧ (s.requestTest p k).store = s.store := by
  simp only [State.requestTest]
  (repeat' split) <;> simp

@[simp] theorem State.requestTest_reads (p : Port) (k : RequestKind) :
    (s.requestTest p k).isRunning = s.isRunning ∧ (s.requestTest p k).now = s.now ∧
    (s.requestTest p k).mode = s.mode ∧ (∀ x, (s.requestTest p k).slot x = s.slot x) := by
  simp [State.isRunning, State.now, State.mode, State.slot]

@[simp] theorem State.startTest_keeps (p : Port) (o : TestOrigin) :
    (s.startTest p o).phase = s.phase ∧ (s.startTest p o).pending = s.pending ∧ (s.startTest p o).time = s.time ∧
    (s.startTest p o).mains = s.mains ∧ (s.startTest p o).bank = s.bank ∧ (s.startTest p o).account = s.account ∧
    (s.startTest p o).slots = s.slots ∧ (s.startTest p o).settings = s.settings ∧
    (s.startTest p o).store = s.store := by
  simp [State.startTest]

@[simp] theorem State.startTest_reads (p : Port) (o : TestOrigin) :
    (s.startTest p o).isRunning = s.isRunning ∧ (s.startTest p o).now = s.now ∧ (s.startTest p o).mode = s.mode ∧
    (∀ x, (s.startTest p o).slot x = s.slot x) := by
  simp [State.isRunning, State.now, State.mode, State.slot]

@[simp] theorem State.walkEntry_keeps (e : Port × TestOrigin) :
    (s.walkEntry e).phase = s.phase ∧ (s.walkEntry e).pending = s.pending ∧ (s.walkEntry e).time = s.time ∧
    (s.walkEntry e).mains = s.mains ∧ (s.walkEntry e).bank = s.bank ∧ (s.walkEntry e).account = s.account ∧
    (s.walkEntry e).slots = s.slots ∧ (s.walkEntry e).settings = s.settings ∧ (s.walkEntry e).store = s.store := by
  simp only [State.walkEntry]
  (repeat' split) <;> simp

@[simp] theorem State.walkEntry_reads (e : Port × TestOrigin) :
    (s.walkEntry e).isRunning = s.isRunning ∧ (s.walkEntry e).now = s.now ∧ (s.walkEntry e).mode = s.mode ∧
    (∀ x, (s.walkEntry e).slot x = s.slot x) := by
  simp [State.isRunning, State.now, State.mode, State.slot]

@[simp] theorem State.startWalk_keeps :
    (s.startWalk).phase = s.phase ∧ (s.startWalk).pending = s.pending ∧ (s.startWalk).time = s.time ∧
    (s.startWalk).mains = s.mains ∧ (s.startWalk).bank = s.bank ∧ (s.startWalk).account = s.account ∧
    (s.startWalk).slots = s.slots ∧ (s.startWalk).settings = s.settings ∧ (s.startWalk).store = s.store := by
  and_intros <;> exact foldl_keeps _ _ (fun _ _ => by simp) _ s

@[simp] theorem State.startWalk_reads :
    (s.startWalk).isRunning = s.isRunning ∧ (s.startWalk).now = s.now ∧ (s.startWalk).mode = s.mode ∧
    (∀ x, (s.startWalk).slot x = s.slot x) := by
  simp [State.isRunning, State.now, State.mode, State.slot]

@[simp] theorem State.finish_keeps :
    (s.finish).phase = s.phase ∧ (s.finish).pending = s.pending ∧ (s.finish).time = s.time ∧
    (s.finish).mains = s.mains ∧ (s.finish).bank = s.bank ∧ (s.finish).account = s.account ∧
    (s.finish).slots = s.slots ∧ (s.finish).settings = s.settings ∧ (s.finish).store = s.store := by
  simp [State.finish]

@[simp] theorem State.finish_reads :
    (s.finish).isRunning = s.isRunning ∧ (s.finish).now = s.now ∧ (s.finish).mode = s.mode ∧
    (∀ x, (s.finish).slot x = s.slot x) := by
  simp [State.isRunning, State.now, State.mode, State.slot]

end Sys2Proof.Machine
end

