-- ==== Sys2Proof/Laws/PerInstr.lean ====
section
/-! SUPPORT. One law per command: the frame of a well-formed command fits the framer (section 9.1). -/

namespace Sys2Proof.Laws

/-- The frame that a well-formed command stands for carries no more parameters than the framer takes. -/
def Framed.Statement (i : Instr) : Prop := i.wellFormed = true → ∀ f, i.frame? = some f → f.fits = true

/-- A master's command with at most 24 parameter bytes fits. -/
theorem Framed.of_length {i : Instr} {l : Link} {a c : Byte} {ps : List Byte} (hf : i.frame? = some ⟨l, a, c, ps⟩)
    (hc : isCommandCode c = true) (hl : i.wellFormed = true → ps.length ≤ 24) : Framed.Statement i := by
  intro hw f h
  obtain rfl : ⟨l, a, c, ps⟩ = f := by rw [hf] at h; exact Option.some.inj h
  simp [Frame.fits, hc, hl hw]

/-- A master's command whose check is the length of its parameters fits. -/
theorem Framed.of_check {i : Instr} {l : Link} {a c : Byte} {ps : List Byte} (hf : i.frame? = some ⟨l, a, c, ps⟩)
    (hc : isCommandCode c = true) (hw : i.wellFormed = decide (ps.length ≤ 24)) : Framed.Statement i :=
  Framed.of_length hf hc fun h => of_decide_eq_true (hw.symm.trans h)

/-- A command that is no frame has nothing to fit. -/
theorem Framed.of_none {i : Instr} (hf : i.frame? = none) : Framed.Statement i := by
  intro _ f h
  rw [hf] at h
  cases h

theorem Framed.powerOnReset (mainsOk : Bool) (straps : Fin 32) : Framed.Statement (.powerOnReset mainsOk straps) := Framed.of_none rfl
theorem Framed.hardReset : Framed.Statement .hardReset := Framed.of_none rfl
theorem Framed.hardResetEnd (mainsOk : Bool) (straps : Fin 32) : Framed.Statement (.hardResetEnd mainsOk straps) := Framed.of_none rfl
theorem Framed.mainsOkChange (present : Bool) : Framed.Statement (.mainsOkChange present) := Framed.of_none rfl
theorem Framed.levelSample (present : Bool) : Framed.Statement (.levelSample present) := Framed.of_none rfl
theorem Framed.outageTimerExpiry : Framed.Statement .outageTimerExpiry := Framed.of_none rfl
theorem Framed.restoreTimerExpiry : Framed.Statement .restoreTimerExpiry := Framed.of_none rfl
theorem Framed.secondTick : Framed.Statement .secondTick := Framed.of_none rfl
theorem Framed.scanComplete (readings : Readings) : Framed.Statement (.scanComplete readings) := Framed.of_none rfl
theorem Framed.passComplete : Framed.Statement .passComplete := Framed.of_none rfl
theorem Framed.trip (port : Port) (milliamps : Nat) (readings : List PairReading) :
    Framed.Statement (.trip port milliamps readings) := Framed.of_none rfl
theorem Framed.retryWaitEnd (port : Port) : Framed.Statement (.retryWaitEnd port) := Framed.of_none rfl
theorem Framed.notBeforeReached (port : Port) (kind : RequestKind) (cls : OriginClass) : Framed.Statement (.notBeforeReached port kind cls) := Framed.of_none rfl
theorem Framed.burstsEnd (lane : LaneId) : Framed.Statement (.burstsEnd lane) := Framed.of_none rfl
theorem Framed.replyDecoded (lane : LaneId) (samples : List PairSample) : Framed.Statement (.replyDecoded lane samples) := Framed.of_none rfl
theorem Framed.replySymbolFailure (lane : LaneId) (samples : List PairSample) : Framed.Statement (.replySymbolFailure lane samples) := Framed.of_none rfl
theorem Framed.windowClose (lane : LaneId) (samples : List PairSample) : Framed.Statement (.windowClose lane samples) := Framed.of_none rfl
theorem Framed.flagInWindow (lane : LaneId) (samples : List PairSample) : Framed.Statement (.flagInWindow lane samples) := Framed.of_none rfl
theorem Framed.terminalFlag (port : Port) (samples : List PairSample) : Framed.Statement (.terminalFlag port samples) := Framed.of_none rfl
theorem Framed.entryExpiry (port : Port) (kind : RequestKind) (cls : OriginClass) : Framed.Statement (.entryExpiry port kind cls) := Framed.of_none rfl
theorem Framed.settleTimerExpiry (port : Port) : Framed.Statement (.settleTimerExpiry port) := Framed.of_none rfl
theorem Framed.wakeExpiry (port : Port) : Framed.Statement (.wakeExpiry port) := Framed.of_none rfl
theorem Framed.dwellExpiry (port : Port) : Framed.Statement (.dwellExpiry port) := Framed.of_none rfl
theorem Framed.lineSilence (link : Link) : Framed.Statement (.lineSilence link) := Framed.of_none rfl
theorem Framed.badFrame (link : Link) (cause : BadFrameCause) : Framed.Statement (.badFrame link cause) := Framed.of_none rfl
theorem Framed.frameAddressDiscard (link : Link) (addr code : Byte) (params : List Byte) :
    Framed.Statement (.frameAddressDiscard link addr code params) := by
  intro hw f h
  obtain rfl : ⟨link, addr, code, params⟩ = f := Option.some.inj h
  exact hw
theorem Framed.frameOverrun (link : Link) (addr code : Byte) (params : List Byte) :
    Framed.Statement (.frameOverrun link addr code params) := by
  intro hw f h
  obtain rfl : ⟨link, addr, code, params⟩ = f := Option.some.inj h
  simp only [Instr.wellFormed, Bool.and_eq_true, decide_eq_true_eq] at hw
  simp [Frame.fits, hw]
theorem Framed.unknownCmd (link : Link) (addr code : Byte) (params : List Byte) :
    Framed.Statement (.unknownCmd link addr code params) := by
  intro hw f h
  obtain rfl : ⟨link, addr, code, params⟩ = f := Option.some.inj h
  simp only [Instr.wellFormed, Bool.and_eq_true, decide_eq_true_eq] at hw
  simp [Frame.fits, hw]
theorem Framed.replySent (link : Link) : Framed.Statement (.replySent link) := Framed.of_none rfl
theorem Framed.attnPulseEnd (link : Link) : Framed.Statement (.attnPulseEnd link) := Framed.of_none rfl
theorem Framed.settingsWriteEnd : Framed.Statement .settingsWriteEnd := Framed.of_none rfl
theorem Framed.portSet (link : Link) (addr : Byte) (params : List Byte) : Framed.Statement (.portSet link addr params) :=
  Framed.of_check rfl (by decide) rfl
theorem Framed.portDraw (link : Link) (addr : Byte) (params : List Byte) : Framed.Statement (.portDraw link addr params) :=
  Framed.of_check rfl (by decide) rfl
theorem Framed.portClear (link : Link) (addr : Byte) (params : List Byte) : Framed.Statement (.portClear link addr params) :=
  Framed.of_check rfl (by decide) rfl
theorem Framed.lineRestore (link : Link) (addr : Byte) (params : List Byte) : Framed.Statement (.lineRestore link addr params) :=
  Framed.of_check rfl (by decide) rfl
theorem Framed.wake (link : Link) (addr : Byte) (params : List Byte) : Framed.Statement (.wake link addr params) :=
  Framed.of_check rfl (by decide) rfl
theorem Framed.poll (link : Link) (addr : Byte) (params : List Byte) : Framed.Statement (.poll link addr params) :=
  Framed.of_check rfl (by decide) rfl
theorem Framed.testRequest (link : Link) (addr : Byte) (params : List Byte) : Framed.Statement (.testRequest link addr params) :=
  Framed.of_check rfl (by decide) rfl
theorem Framed.testAbort (link : Link) (addr : Byte) (params : List Byte) : Framed.Statement (.testAbort link addr params) :=
  Framed.of_check rfl (by decide) rfl
theorem Framed.setHold (link : Link) (addr : Byte) (params : List Byte) : Framed.Statement (.setHold link addr params) :=
  Framed.of_check rfl (by decide) rfl
theorem Framed.setBank (link : Link) (addr : Byte) (params : List Byte) : Framed.Statement (.setBank link addr params) :=
  Framed.of_check rfl (by decide) rfl
theorem Framed.setReserve (link : Link) (addr : Byte) (params : List Byte) : Framed.Statement (.setReserve link addr params) :=
  Framed.of_check rfl (by decide) rfl
theorem Framed.buildingLimit (link : Link) (addr : Byte) (params : List Byte) : Framed.Statement (.buildingLimit link addr params) :=
  Framed.of_check rfl (by decide) rfl
theorem Framed.setOcvPart0 (link : Link) (addr : Byte) (params : List Byte) : Framed.Statement (.setOcvPart0 link addr params) :=
  Framed.of_length rfl (by decide) fun h => of_decide_eq_true (Bool.and_eq_true_iff.mp h).2
theorem Framed.setOcvPart1 (link : Link) (addr : Byte) (params : List Byte) : Framed.Statement (.setOcvPart1 link addr params) :=
  Framed.of_length rfl (by decide) fun h => of_decide_eq_true (Bool.and_eq_true_iff.mp h).2
theorem Framed.setMains (link : Link) (addr : Byte) (params : List Byte) : Framed.Statement (.setMains link addr params) :=
  Framed.of_check rfl (by decide) rfl
theorem Framed.setRing (link : Link) (addr : Byte) (params : List Byte) : Framed.Statement (.setRing link addr params) :=
  Framed.of_check rfl (by decide) rfl
theorem Framed.setTest (link : Link) (addr : Byte) (params : List Byte) : Framed.Statement (.setTest link addr params) :=
  Framed.of_check rfl (by decide) rfl
theorem Framed.setWake (link : Link) (addr : Byte) (params : List Byte) : Framed.Statement (.setWake link addr params) :=
  Framed.of_check rfl (by decide) rfl
theorem Framed.readStatus (link : Link) (addr : Byte) (params : List Byte) : Framed.Statement (.readStatus link addr params) :=
  Framed.of_check rfl (by decide) rfl
theorem Framed.readMeasure (link : Link) (addr : Byte) (params : List Byte) : Framed.Statement (.readMeasure link addr params) :=
  Framed.of_check rfl (by decide) rfl
theorem Framed.readBudget (link : Link) (addr : Byte) (params : List Byte) : Framed.Statement (.readBudget link addr params) :=
  Framed.of_check rfl (by decide) rfl
theorem Framed.readPort (link : Link) (addr : Byte) (params : List Byte) : Framed.Statement (.readPort link addr params) :=
  Framed.of_check rfl (by decide) rfl
theorem Framed.readPortNext (link : Link) (addr : Byte) (params : List Byte) : Framed.Statement (.readPortNext link addr params) :=
  Framed.of_check rfl (by decide) rfl
theorem Framed.readResult (link : Link) (addr : Byte) (params : List Byte) : Framed.Statement (.readResult link addr params) :=
  Framed.of_check rfl (by decide) rfl
theorem Framed.seekResult (link : Link) (addr : Byte) (params : List Byte) : Framed.Statement (.seekResult link addr params) :=
  Framed.of_check rfl (by decide) rfl
theorem Framed.setFollow (link : Link) (addr : Byte) (params : List Byte) : Framed.Statement (.setFollow link addr params) :=
  Framed.of_check rfl (by decide) rfl
theorem Framed.slotConfigure (link : Link) (addr : Byte) (params : List Byte) : Framed.Statement (.slotConfigure link addr params) :=
  Framed.of_check rfl (by decide) rfl
theorem Framed.slotRead (link : Link) (addr : Byte) (params : List Byte) : Framed.Statement (.slotRead link addr params) :=
  Framed.of_check rfl (by decide) rfl
theorem Framed.slotRelease (link : Link) (addr : Byte) (params : List Byte) : Framed.Statement (.slotRelease link addr params) :=
  Framed.of_check rfl (by decide) rfl
theorem Framed.readNotices (link : Link) (addr : Byte) (params : List Byte) : Framed.Statement (.readNotices link addr params) :=
  Framed.of_check rfl (by decide) rfl
theorem Framed.setNoticeMask (link : Link) (addr : Byte) (params : List Byte) : Framed.Statement (.setNoticeMask link addr params) :=
  Framed.of_check rfl (by decide) rfl
theorem Framed.setAttn (link : Link) (addr : Byte) (params : List Byte) : Framed.Statement (.setAttn link addr params) :=
  Framed.of_check rfl (by decide) rfl
theorem Framed.readCounters (link : Link) (addr : Byte) (params : List Byte) : Framed.Statement (.readCounters link addr params) :=
  Framed.of_check rfl (by decide) rfl
theorem Framed.saveSettings (link : Link) (addr : Byte) (params : List Byte) : Framed.Statement (.saveSettings link addr params) :=
  Framed.of_check rfl (by decide) rfl
theorem Framed.restart (link : Link) (addr : Byte) (params : List Byte) : Framed.Statement (.restart link addr params) :=
  Framed.of_check rfl (by decide) rfl
theorem Framed.lossOfSupply : Framed.Statement .lossOfSupply := Framed.of_none rfl
theorem Framed.byteIgnoredUntilSilence (link : Link) (byte : Byte) : Framed.Statement (.byteIgnoredUntilSilence link byte) := Framed.of_none rfl

end Sys2Proof.Laws
end

