-- ==== Sys2Proof/Laws/Ports.lean ====
section
/-! SUPPORT. What the shared operations leave of every port's record, the law of the one operation that changes a feed
state, when the trip of a port fires, and what the end of RELEASING can come to. -/

namespace Sys2Proof.Machine

open Sys2Proof

variable (s : State)

/-- A change of one port's record that keeps a field keeps it for every port. -/
theorem State.modPort_field {β : Type} (g : PortRecord → β) (p q : Port) (f : PortRecord → PortRecord)
    (h : ∀ r, g (f r) = g r) : g ((s.modPort p f).port q) = g (s.port q) := by
  rw [State.modPort_port]
  split
  · simp_all
  · rfl

@[simp] theorem State.setTerminal_port_keeps (p : Port) (t : Terminal) (q : Port) :
    ((s.setTerminal p t).port q).feed = (s.port q).feed ∧ ((s.setTerminal p t).port q).prov = (s.port q).prov ∧
    ((s.setTerminal p t).port q).wake = (s.port q).wake := by
  unfold State.setTerminal
  split
  · simp
  · simp [State.modPort_port]
    split <;> simp_all

@[simp] theorem State.setBattery_port_keeps (p : Port) (g : Battery) (q : Port) :
    ((s.setBattery p g).port q).feed = (s.port q).feed ∧ ((s.setBattery p g).port q).prov = (s.port q).prov ∧
    ((s.setBattery p g).port q).terminal = (s.port q).terminal ∧
    ((s.setBattery p g).port q).wake = (s.port q).wake := by
  unfold State.setBattery
  split
  · simp
  · simp [State.modPort_port]
    split <;> simp_all

@[simp] theorem State.dropWake_port_keeps (p : Port) (q : Port) :
    ((s.dropWake p).port q).feed = (s.port q).feed ∧ ((s.dropWake p).port q).prov = (s.port q).prov ∧
    ((s.dropWake p).port q).terminal = (s.port q).terminal := by
  simp [State.dropWake, State.modPort_port]
  split <;> simp_all

@[simp] theorem State.expireWake_port_keeps (p : Port) (q : Port) :
    ((s.expireWake p).port q).feed = (s.port q).feed ∧ ((s.expireWake p).port q).prov = (s.port q).prov ∧
    ((s.expireWake p).port q).terminal = (s.port q).terminal := by
  simp [State.expireWake]

@[simp] theorem State.returnEntry_port_keeps (t : Transaction) (q : Port) :
    ((s.returnEntry t).port q).feed = (s.port q).feed ∧ ((s.returnEntry t).port q).prov = (s.port q).prov ∧
    ((s.returnEntry t).port q).terminal = (s.port q).terminal := by
  simp only [State.returnEntry]
  (repeat' split) <;> simp

@[simp] theorem State.abandonLane_port_keeps (p : Port) (i : LaneId) (q : Port) :
    ((s.abandonLane p i).port q).feed = (s.port q).feed ∧ ((s.abandonLane p i).port q).prov = (s.port q).prov ∧
    ((s.abandonLane p i).port q).terminal = (s.port q).terminal := by
  simp only [State.abandonLane]
  (repeat' split) <;> simp

@[simp] theorem State.abandonPort_port_keeps (p : Port) (q : Port) :
    ((s.abandonPort p).port q).feed = (s.port q).feed ∧ ((s.abandonPort p).port q).prov = (s.port q).prov ∧
    ((s.abandonPort p).port q).terminal = (s.port q).terminal := by
  exact ⟨foldl_keeps (fun s => (s.port q).feed) _ (fun _ _ => by simp) _ s,
    foldl_keeps (fun s => (s.port q).prov) _ (fun _ _ => by simp) _ s,
    foldl_keeps (fun s => (s.port q).terminal) _ (fun _ _ => by simp) _ s⟩

@[simp] theorem State.repark_port_keeps (p : Port) (q : Port) :
    ((s.repark p).port q).feed = (s.port q).feed ∧ ((s.repark p).port q).prov = (s.port q).prov ∧
    ((s.repark p).port q).terminal = (s.port q).terminal := by
  unfold State.repark
  split
  · simp [State.modPort_port]
    split <;> simp_all
  · simp

@[simp] theorem State.clearRuns_port_keeps (p : Port) (q : Port) :
    ((s.clearRuns p).port q).feed = (s.port q).feed ∧ ((s.clearRuns p).port q).prov = (s.port q).prov ∧
    ((s.clearRuns p).port q).terminal = (s.port q).terminal ∧ ((s.clearRuns p).port q).wake = (s.port q).wake := by
  simp only [State.clearRuns, State.modPort_port]
  split <;> simp_all

@[simp] theorem State.lineFailure_port_keeps (p : Port) (q : Port) :
    ((s.lineFailure p).port q).feed = (s.port q).feed ∧ ((s.lineFailure p).port q).prov = (s.port q).prov ∧
    ((s.lineFailure p).port q).terminal = (s.port q).terminal ∧
    ((s.lineFailure p).port q).wake = (s.port q).wake := by
  simp only [State.lineFailure, State.modPort_port]
  split <;> simp_all

@[simp] theorem State.lineSuccess_port_keeps (p : Port) (q : Port) :
    ((s.lineSuccess p).port q).feed = (s.port q).feed ∧ ((s.lineSuccess p).port q).prov = (s.port q).prov ∧
    ((s.lineSuccess p).port q).terminal = (s.port q).terminal ∧
    ((s.lineSuccess p).port q).wake = (s.port q).wake := by
  simp only [State.lineSuccess, State.modPort_port]
  split <;> simp_all

@[simp] theorem State.clearLine_port_keeps (p : Port) (q : Port) :
    ((s.clearLine p).port q).feed = (s.port q).feed ∧ ((s.clearLine p).port q).prov = (s.port q).prov ∧
    ((s.clearLine p).port q).terminal = (s.port q).terminal ∧ ((s.clearLine p).port q).wake = (s.port q).wake := by
  simp only [State.clearLine, State.modPort_port]
  split <;> simp_all

@[simp] theorem State.appendRecord_port_keeps (r : TestRecord) (q : Port) :
    ((s.appendRecord r).port q).feed = (s.port q).feed ∧ ((s.appendRecord r).port q).prov = (s.port q).prov ∧
    ((s.appendRecord r).port q).terminal = (s.port q).terminal ∧
    ((s.appendRecord r).port q).wake = (s.port q).wake := by
  unfold State.appendRecord
  (repeat' split) <;> simp [State.modPort_port] <;> split <;> simp_all

@[simp] theorem State.failWake_port_keeps (p : Port) (q : Port) :
    ((s.failWake p).port q).feed = (s.port q).feed ∧ ((s.failWake p).port q).prov = (s.port q).prov := by
  simp [State.failWake]

@[simp] theorem State.endWake_port_keeps (p : Port) (q : Port) :
    ((s.endWake p).port q).feed = (s.port q).feed ∧ ((s.endWake p).port q).prov = (s.port q).prov ∧
    ((s.endWake p).port q).terminal = (s.port q).terminal := by
  simp [State.endWake]

@[simp] theorem State.requestWake_port_keeps (p : Port) (q : Port) :
    ((s.requestWake p).port q).feed = (s.port q).feed ∧ ((s.requestWake p).port q).prov = (s.port q).prov := by
  simp only [State.requestWake]
  (repeat' split) <;> simp

@[simp] theorem State.putWake_port_keeps (p : Port) (g : WakeStage) (x : Nat) (q : Port) :
    ((s.putWake p g x).port q).feed = (s.port q).feed ∧ ((s.putWake p g x).port q).prov = (s.port q).prov ∧
    ((s.putWake p g x).port q).terminal = (s.port q).terminal := by
  unfold State.putWake
  (repeat' split) <;> simp [State.modPort_port] <;> split <;> simp_all

@[simp] theorem State.makeWake_port_keeps (p : Port) (q : Port) :
    ((s.makeWake p).port q).feed = (s.port q).feed ∧ ((s.makeWake p).port q).prov = (s.port q).prov := by
  simp only [State.makeWake]
  (repeat' split) <;> simp

@[simp] theorem State.takeWake_port_keeps (p : Port) (k : PassKind) (q : Port) :
    ((s.takeWake p k).port q).feed = (s.port q).feed ∧ ((s.takeWake p k).port q).prov = (s.port q).prov := by
  unfold State.takeWake
  split <;> simp [State.modPort_port]
  split <;> simp_all

@[simp] theorem State.autoWake_port_keeps (p : Port) (q : Port) :
    ((s.autoWake p).port q).feed = (s.port q).feed ∧ ((s.autoWake p).port q).prov = (s.port q).prov := by
  simp only [State.autoWake]
  (repeat' split) <;> simp

@[simp] theorem State.endTest_port_keeps (p : Port) (o : TestOutcome) (q : Port) :
    ((s.endTest p o).port q).feed = (s.port q).feed ∧ ((s.endTest p o).port q).prov = (s.port q).prov ∧
    ((s.endTest p o).port q).terminal = (s.port q).terminal ∧ ((s.endTest p o).port q).wake = (s.port q).wake := by
  simp only [State.endTest]
  (repeat' split) <;> simp

/-- A port's own record at a change of feed state keeps its provisioning and its terminal state. -/
@[simp] theorem PortRecord.withFeed_keeps (r : PortRecord) (f : FeedState) (now : Nat) :
    (r.withFeed f now).feed = f ∧ (r.withFeed f now).terminal = r.terminal ∧ (r.withFeed f now).wake = r.wake ∧
      (r.withFeed f now).lineErr = r.lineErr ∧ (r.withFeed f now).release = r.release := ⟨rfl, rfl, rfl, rfl, rfl⟩

/-- The one operation that changes a feed state changes it for its port alone, and leaves provisioning and terminal
states. -/
@[simp] theorem State.setFeed_port (p : Port) (f : FeedState) (q : Port) :
    ((s.setFeed p f).port q).feed = (if q = p then f else (s.port q).feed) ∧
      ((s.setFeed p f).port q).prov = (s.port q).prov ∧ ((s.setFeed p f).port q).terminal = (s.port q).terminal := by
  have hp : ∀ r : PortRecord, (r.withFeed f s.now).prov = r.prov := fun _ => rfl
  by_cases hq : q = p
  · subst hq
    simp only [State.setFeed]
    (repeat' split) <;> simp_all
  · simp only [State.setFeed]
    (repeat' split) <;> simp [State.modPort_port, hq]

@[simp] theorem PortRecord.withFeed_trickleSince (r : PortRecord) (f : FeedState) (now : Nat) :
    (r.withFeed f now).trickleSince = if f = .trickle then some now else none := rfl

/-- The readings end in 100 ms at the limit (R69). -/
theorem heldAtLimit_iff (limit : Nat) (readings : List PairReading) :
    heldAtLimit limit readings = true ↔ ∃ before last, readings = before ++ last ∧ last.length = 100 ∧
      ∀ x ∈ last, limit ≤ x.current ∧ x.voltage < 20000 := by
  unfold heldAtLimit
  constructor
  · intro h
    simp only [Bool.and_eq_true, decide_eq_true_eq, List.all_eq_true, PairReading.limited] at h
    refine ⟨readings.take (readings.length - 100), readings.drop (readings.length - 100),
      (List.take_append_drop _ _).symm, ?_, h.2⟩
    have hn : 100 ≤ readings.length := h.1
    rw [List.length_drop]; omega
  · rintro ⟨before, last, rfl, hl, h⟩
    have hd : (before ++ last).length - 100 = before.length := by rw [List.length_append, hl]; omega
    rw [hd, List.drop_left]
    simpa [hl, PairReading.limited] using h

/-- When the trip fires (R69): what the meaning of TRIP acts on, said once. -/
theorem State.tripFires_iff (p : Port) (milliamps : Nat) (readings : List PairReading) :
    s.tripFires p milliamps readings = true ↔ (s.port p).feed = .full ∧ 1500 < milliamps ∨
      (s.port p).feed = .trickle ∧ (∃ t, (s.port p).trickleSince = some t ∧ t + 100 ≤ s.now) ∧
        ∃ before last, readings = before ++ last ∧ last.length = 100 ∧
          ∀ x ∈ last, (s.port p).trickleLimit ≤ x.current ∧ x.voltage < 20000 := by
  rw [← heldAtLimit_iff]
  unfold State.tripFires State.trickleStood
  cases (s.port p).feed <;> cases (s.port p).trickleSince <;> simp

/-- What the end of RELEASING can come to (R12, R19, R67): nothing, or STANDBY with no account mark left and OUTAGE_END. -/
theorem State.checkReleased_cases :
    s.checkReleased = s ∧ ¬ (s.mode = .releasing ∧ s.noneFed = true) ∨
      (s.mode = .releasing ∧ s.noneFed = true) ∧ s.checkReleased.mode = .standby ∧
        s.checkReleased.bank = { s.bank with accountMark := false, cutoffRun := 0 } ∧
        s.checkReleased.ports = s.ports ∧ s.checkReleased.lsu = s.lsu := by
  unfold State.checkReleased State.enterStandby
  split
  · rename_i h; exact .inr ⟨h, rfl, rfl, rfl, rfl⟩
  · rename_i h; exact .inl ⟨rfl, h⟩

end Sys2Proof.Machine
end

