-- ==== Sys2Proof/Laws/Steady.lean ====
section
/-! SUPPORT. What every operation inside a step leaves as it is: the steady part of the state (`State.steady`). One lemma
for each shared operation. -/

namespace Sys2Proof.Machine

open Sys2Proof

@[simp] theorem PortRecord.steady_eq (r : PortRecord) : r.steady = ({ r.prov with df := 0 }, r.trickleLimit) := rfl

@[simp] theorem LinkContext.steady_eq (c : LinkContext) :
    c.steady = { c with cursor := none, missed := 0, notices := 0, pulseEnd := none } := rfl

/-! ### The ways of writing a block -/

section base

variable (s : State)

@[simp] theorem State.modBudget_steady (f : Budget → Budget) : (s.modBudget f).steady = s.steady := rfl
@[simp] theorem State.modLsu_steady (f : Lsu → Lsu) : (s.modLsu f).steady = s.steady := rfl
@[simp] theorem State.modWakes_steady (f : WakeLists → WakeLists) : (s.modWakes f).steady = s.steady := rfl
@[simp] theorem State.modTests_steady (f : TestEngine → TestEngine) : (s.modTests f).steady = s.steady := rfl
@[simp] theorem State.modRing_steady (f : Ring → Ring) : (s.modRing f).steady = s.steady := rfl
@[simp] theorem State.setLane_steady (i : LaneId) (t : Option Transaction) : (s.setLane i t).steady = s.steady := rfl
@[simp] theorem State.setFlag_steady (p : Port) (d : FlagDetector) : (s.setFlag p d).steady = s.steady := rfl
@[simp] theorem State.modSlot_steady (i : SlotId) (f : Slot → Slot) : (s.modSlot i f).steady = s.steady := by
  unfold State.modSlot; rfl

@[simp] theorem State.modMains_steady (f : Mains → Mains) (h : ∀ m, (f m).sample = m.sample)
    (h' : ∀ m, (f m).outageNumber = m.outageNumber) : (s.modMains f).steady = s.steady := by
  simp [State.steady, h, h']

@[simp] theorem State.modBank_steady (f : Bank → Bank)
    (h : ∀ b, { f b with accountMark := false, cutoffRun := 0 } = { b with accountMark := false, cutoffRun := 0 }) :
    (s.modBank f).steady = s.steady := by
  have := h s.bank
  simp only [State.steady, State.modBank_bank, this]
  rfl

@[simp] theorem State.modPort_steady (p : Port) (f : PortRecord → PortRecord) (h : ∀ r, (f r).steady = r.steady) :
    (s.modPort p f).steady = s.steady := by
  simp only [State.steady, State.modPort_phase, State.modPort_straps, State.modPort_lastReset, State.modPort_time,
    State.modPort_mains, State.modPort_bank, State.modPort_account, State.modPort_oLink, State.modPort_bLink,
    State.modPort_staging, State.modPort_settings, State.modPort_store, State.modPort_pending, State.modPort_port]
  congr 1
  funext q
  split
  · rename_i e; rw [h, e]
  · rfl

@[simp] theorem State.mapPorts_steady (f : Port → PortRecord → PortRecord) (h : ∀ p r, (f p r).steady = r.steady) :
    (s.mapPorts f).steady = s.steady := by
  simp [State.steady, h, -PortRecord.steady_eq]

@[simp] theorem State.modLink_steady (l : Link) (f : LinkContext → LinkContext) (h : ∀ c, (f c).steady = c.steady) :
    (s.modLink l f).steady = s.steady := by
  cases l <;> simp [State.steady, h, -LinkContext.steady_eq]

/-- A fold of operations that leave the steady part alone leaves it alone. -/
theorem foldl_steady {α : Type} (g : State → α → State) (h : ∀ s a, (g s a).steady = s.steady) (l : List α) :
    ∀ s : State, (l.foldl g s).steady = s.steady := by
  induction l with
  | nil => intro s; rfl
  | cons a l ih => intro s; rw [List.foldl_cons, ih, h]

end base

/-! ### Machine/Ops.lean -/

section ops

variable (s : State)

@[simp] theorem State.notify_steady (l : Link) (k : Notice) : (s.notify l k).steady = s.steady :=
  s.modLink_steady l _ fun _ => rfl

@[simp] theorem State.notifyBoth_steady (k : Notice) : (s.notifyBoth k).steady = s.steady := by simp [State.notifyBoth]

@[simp] theorem State.requestPass_steady (k : PassKind) : (s.requestPass k).steady = s.steady := by
  unfold State.requestPass; split <;> simp

@[simp] theorem State.setTerminal_steady (p : Port) (t : Terminal) : (s.setTerminal p t).steady = s.steady := by
  unfold State.setTerminal; split
  · rfl
  · rw [State.requestPass_steady]; exact s.modPort_steady p _ fun _ => rfl

@[simp] theorem State.setBattery_steady (p : Port) (g : Battery) : (s.setBattery p g).steady = s.steady := by
  unfold State.setBattery; split
  · rfl
  · rw [State.requestPass_steady]; exact s.modPort_steady p _ fun _ => rfl

@[simp] theorem State.dropEntries_steady (f : Entry → Bool) : (s.dropEntries f).steady = s.steady := rfl

@[simp] theorem State.removeEntry_steady (p : Port) (k : RequestKind) (c : OriginClass) :
    (s.removeEntry p k c).steady = s.steady := rfl

@[simp] theorem State.modEntry_steady (p : Port) (k : RequestKind) (c : OriginClass) (f : Entry → Entry) :
    (s.modEntry p k c f).steady = s.steady := rfl

@[simp] theorem State.dropWake_steady (p : Port) : (s.dropWake p).steady = s.steady := by
  unfold State.dropWake
  rw [State.removeEntry_steady, State.modWakes_steady]
  exact s.modPort_steady p _ fun _ => rfl

@[simp] theorem State.expireWake_steady (p : Port) : (s.expireWake p).steady = s.steady := by simp [State.expireWake]

@[simp] theorem State.returnEntry_steady (t : Transaction) : (s.returnEntry t).steady = s.steady := by
  unfold State.returnEntry
  split
  · rfl
  · split
    · rfl
    · split
      · simp
      · split
        · simp
        · split <;> simp

@[simp] theorem State.abandonLane_steady (p : Port) (i : LaneId) : (s.abandonLane p i).steady = s.steady := by
  unfold State.abandonLane
  split
  · rfl
  · split <;> simp

@[simp] theorem State.abandonPort_steady (p : Port) : (s.abandonPort p).steady = s.steady :=
  foldl_steady _ (fun s i => s.abandonLane_steady p i) _ s

@[simp] theorem State.repark_steady (p : Port) : (s.repark p).steady = s.steady := by
  unfold State.repark
  split
  · rw [State.requestPass_steady, State.modWakes_steady]; exact s.modPort_steady p _ fun _ => rfl
  · rfl

@[simp] theorem State.markDeparted_steady (p : Port) : (s.markDeparted p).steady = s.steady := rfl

@[simp] theorem PortRecord.withFeed_prov (r : PortRecord) (f : FeedState) (now : Nat) :
    (r.withFeed f now).prov = r.prov := rfl

@[simp] theorem PortRecord.withFeed_trickleLimit (r : PortRecord) (f : FeedState) (now : Nat) :
    (r.withFeed f now).trickleLimit = r.trickleLimit := rfl

@[simp] theorem State.setFeed_steady (p : Port) (f : FeedState) : (s.setFeed p f).steady = s.steady := by
  unfold State.setFeed
  dsimp only
  split
  · rfl
  · have h : (s.modPort p fun r => r.withFeed f s.now).steady = s.steady := s.modPort_steady p _ fun _ => rfl
    split <;> split <;> split <;> simp [h]

@[simp] theorem State.clearRuns_steady (p : Port) : (s.clearRuns p).steady = s.steady :=
  s.modPort_steady p _ fun _ => rfl

end ops

/-! ### Machine/Lsu.lean, Machine/Ring.lean, Machine/MessageStore.lean, Machine/Wake.lean -/

section blocks

variable (s : State)

@[simp] theorem State.request_steady (p : Port) (k : RequestKind) (o : Origin) : (s.request p k o).steady = s.steady := by
  unfold State.request
  split
  · rfl
  · rfl
  · rfl
  · split <;> simp

@[simp] theorem State.grantLane_steady (i : LaneId) : (s.grantLane i).steady = s.steady := by
  unfold State.grantLane
  split
  · rfl
  · split <;> simp

@[simp] theorem State.armDetectors_steady : s.armDetectors.steady = s.steady := by
  unfold State.armDetectors
  exact s.modLsu_steady _

@[simp] theorem State.arbitrate_steady : s.arbitrate.steady = s.steady := by
  rw [State.arbitrate, State.armDetectors_steady]
  exact foldl_steady _ (fun s i => s.grantLane_steady i) _ s

@[simp] theorem State.lineFailure_steady (p : Port) : (s.lineFailure p).steady = s.steady :=
  s.modPort_steady p _ fun _ => rfl

@[simp] theorem State.lineSuccess_steady (p : Port) : (s.lineSuccess p).steady = s.steady :=
  s.modPort_steady p _ fun _ => rfl

@[simp] theorem State.clearLine_steady (p : Port) : (s.clearLine p).steady = s.steady :=
  s.modPort_steady p _ fun _ => rfl

@[simp] theorem State.judgeRefusal_steady : s.judgeRefusal.steady = s.steady := rfl

@[simp] theorem State.sweepLink_steady (r : List TestRecord) (k : Nat) (l : Link) :
    (s.sweepLink r k l).steady = s.steady := by
  unfold State.sweepLink
  dsimp only
  split
  · rw [State.notify_steady, State.modLink_steady]; exact fun _ => rfl
  · rfl

@[simp] theorem State.sweep_steady (k : Nat) : (s.sweep k).steady = s.steady := by simp [State.sweep]

@[simp] theorem State.holdSweep_steady : s.holdSweep.steady = s.steady := by
  unfold State.holdSweep; split <;> simp

@[simp] theorem State.appendRecord_steady (r : TestRecord) : (s.appendRecord r).steady = s.steady := by
  unfold State.appendRecord
  dsimp only
  rw [State.judgeRefusal_steady, State.notifyBoth_steady, State.modLink_steady, State.modLink_steady,
    State.modPort_steady, State.modRing_steady]
  · split <;> simp
  all_goals exact fun _ => rfl

@[simp] theorem State.notifyOwner_steady (o : Option Link) : (s.notifyOwner o).steady = s.steady := by
  unfold State.notifyOwner; split <;> simp

@[simp] theorem State.deliver_steady (p : Port) (r : Reply) : (s.deliver p r).steady = s.steady := by
  unfold State.deliver
  dsimp only
  split
  · simp
  · split
    · simp
    · split <;> simp

@[simp] theorem State.failWake_steady (p : Port) : (s.failWake p).steady = s.steady := by simp [State.failWake]

@[simp] theorem State.endWake_steady (p : Port) : (s.endWake p).steady = s.steady := by simp [State.endWake]

@[simp] theorem State.requestWake_steady (p : Port) : (s.requestWake p).steady = s.steady := by
  unfold State.requestWake; split <;> simp

@[simp] theorem State.putWake_steady (p : Port) (g : WakeStage) (x : Nat) : (s.putWake p g x).steady = s.steady := by
  unfold State.putWake; rw [State.modWakes_steady]; exact s.modPort_steady p _ fun _ => rfl

@[simp] theorem State.makeWake_steady (p : Port) : (s.makeWake p).steady = s.steady := by
  unfold State.makeWake; dsimp only; split <;> simp

@[simp] theorem State.takeWake_steady (p : Port) (k : PassKind) : (s.takeWake p k).steady = s.steady := by
  unfold State.takeWake
  split
  · rfl
  · rw [State.requestPass_steady]; exact s.modPort_steady p _ fun _ => rfl
  all_goals simp

@[simp] theorem State.autoWake_steady (p : Port) : (s.autoWake p).steady = s.steady := by
  unfold State.autoWake; split <;> simp

@[simp] theorem State.unpark_steady (f : Port → Bool) : (s.unpark f).steady = s.steady := by
  unfold State.unpark
  dsimp only
  split
  · rfl
  · rw [State.requestPass_steady, State.modWakes_steady]
    exact s.mapPorts_steady _ fun _ r => by split <;> rfl

@[simp] theorem State.settlePort_steady (p : Port) : (s.settlePort p).steady = s.steady := by
  unfold State.settlePort
  dsimp only
  split
  · rw [State.requestWake_steady, State.modWakes_steady, State.modPort_steady, State.modPort_steady]
    all_goals exact fun _ => rfl
  · exact s.modPort_steady p _ fun _ => rfl

end blocks

/-! ### Machine/TestEngine.lean -/

section tests

variable (s : State)

@[simp] theorem State.modTest_steady (p : Port) (f : TestContext → TestContext) : (s.modTest p f).steady = s.steady := rfl

@[simp] theorem State.dequeueTest_steady (p : Port) : (s.dequeueTest p).steady = s.steady := rfl

@[simp] theorem State.enqueueTest_steady (p : Port) (o : TestOrigin) : (s.enqueueTest p o).steady = s.steady := rfl

@[simp] theorem State.enterTesting_steady (p : Port) : (s.enterTesting p).steady = s.steady := by
  unfold State.enterTesting; split <;> simp

@[simp] theorem State.leaveTesting_steady (p : Port) : (s.leaveTesting p).steady = s.steady := by
  unfold State.leaveTesting
  split
  · split <;> simp
  · rfl

@[simp] theorem State.endTest_steady (p : Port) (o : TestOutcome) : (s.endTest p o).steady = s.steady := by
  unfold State.endTest; split <;> simp

@[simp] theorem State.abortTest_steady (p : Port) (o : TestOutcome) : (s.abortTest p o).steady = s.steady := by
  unfold State.abortTest; split <;> simp

@[simp] theorem State.abortTests_steady (o : TestOutcome) : (s.abortTests o).steady = s.steady :=
  foldl_steady _ (fun s p => s.abortTest_steady p o) _ s

@[simp] theorem State.stopTests_steady (o : TestOutcome) : (s.stopTests o).steady = s.steady := by simp [State.stopTests]

@[simp] theorem State.flagTest_steady (p : Port) : (s.flagTest p).steady = s.steady := by
  unfold State.flagTest; split <;> simp

@[simp] theorem State.gradeTest_steady (p : Port) (c : TestContext) (v : Nat) : (s.gradeTest p c v).steady = s.steady := by
  simp [State.gradeTest]

@[simp] theorem State.loseTest_steady (p : Port) : (s.loseTest p).steady = s.steady := by simp [State.loseTest]

@[simp] theorem State.failTest_steady (p : Port) : (s.failTest p).steady = s.steady := by
  unfold State.failTest
  split
  · rfl
  · split <;> simp

@[simp] theorem State.requestTest_steady (p : Port) (k : RequestKind) : (s.requestTest p k).steady = s.steady := by
  unfold State.requestTest; split <;> simp

@[simp] theorem State.advanceTest_steady (p : Port) (k : RequestKind) (r : Reply) :
    (s.advanceTest p k r).steady = s.steady := by
  unfold State.advanceTest
  split
  · rfl
  · split <;> simp

@[simp] theorem State.startTest_steady (p : Port) (o : TestOrigin) : (s.startTest p o).steady = s.steady := by
  simp [State.startTest]

@[simp] theorem State.walkEntry_steady (e : Port × TestOrigin) : (s.walkEntry e).steady = s.steady := by
  unfold State.walkEntry; split <;> simp

@[simp] theorem State.startWalk_steady : s.startWalk.steady = s.steady :=
  foldl_steady _ (fun s e => s.walkEntry_steady e) _ s

@[simp] theorem State.surveyPort_steady (p : Port) : (s.surveyPort p).steady = s.steady := by
  unfold State.surveyPort; split <;> simp

@[simp] theorem State.judgeSurvey_steady : s.judgeSurvey.steady = s.steady := by
  unfold State.judgeSurvey
  dsimp only
  split
  · split
    · rw [foldl_steady _ (fun s p => s.surveyPort_steady p), State.modTests_steady]
    · simp
  · rfl

end tests

/-! ### Machine/Passes.lean -/

section passes

variable (s : State)

@[simp] theorem State.beginPass_steady (c : BitVec 8) : (s.beginPass c).steady = s.steady := rfl

@[simp] theorem State.abandonPass_steady : s.abandonPass.steady = s.steady := rfl

@[simp] theorem State.placePort_steady (r : PassResult) (p : Port) : (s.placePort r p).steady = s.steady := by
  unfold State.placePort
  dsimp only
  split
  · rfl
  · split
    · rw [State.request_steady, State.modPort_steady, State.modPort_steady, State.setFeed_steady]
      all_goals exact fun _ => rfl
    · rw [State.modPort_steady, State.setFeed_steady]
      exact fun _ => rfl

@[simp] theorem State.applyPass_steady (w : PassWork) : (s.applyPass w).steady = s.steady := by
  unfold State.applyPass
  dsimp only
  rw [State.modBudget_steady]
  split <;> simp [foldl_steady _ (fun s p => s.placePort_steady _ p)]

@[simp] theorem State.completePass_steady : s.completePass.steady = s.steady := by
  unfold State.completePass
  split
  · rfl
  · dsimp only; split <;> simp

@[simp] theorem State.transitionPass_steady (k : BitVec 8) : (s.transitionPass k).steady = s.steady := by
  simp [State.transitionPass]

@[simp] theorem State.flushPass_steady : s.flushPass.steady = s.steady := by
  unfold State.flushPass
  split
  · rfl
  · split <;> simp

@[simp] theorem State.finish_steady : s.finish.steady = s.steady := by simp [State.finish]

end passes

/-! ### Machine/Outcomes.lean -/

section outcomes

variable (s : State)

@[simp] theorem State.enterStandby_steady : s.enterStandby.steady = s.steady := by
  simp [State.enterStandby]

@[simp] theorem State.checkReleased_steady : s.checkReleased.steady = s.steady := by
  unfold State.checkReleased; split <;> simp

@[simp] theorem State.endRelease_steady (p : Port) : (s.endRelease p).steady = s.steady := by
  have h : (s.modPort p fun r => { r with release := false }).steady = s.steady := s.modPort_steady p _ fun _ => rfl
  unfold State.endRelease
  dsimp only
  split <;> simp [h]

@[simp] theorem State.takeReply_steady (p : Port) (r : Reply) : (s.takeReply p r).steady = s.steady := by
  unfold State.takeReply
  dsimp only
  split
  · split
    · rw [State.setTerminal_steady]; exact s.modPort_steady p _ fun _ => rfl
    · rfl
  · exact s.modPort_steady p _ fun _ => rfl
  · split
    · rfl
    · rw [State.requestPass_steady]; exact s.modPort_steady p _ fun _ => rfl
  · rfl

@[simp] theorem State.wakeByReply_steady (t : Transaction) (r : Reply) : (s.wakeByReply t r).steady = s.steady := by
  unfold State.wakeByReply; split <;> simp

@[simp] theorem State.tellSuccess_steady (t : Transaction) (r : Reply) : (s.tellSuccess t r).steady = s.steady := by
  unfold State.tellSuccess; split <;> simp

@[simp] theorem State.tellFailure_steady (t : Transaction) : (s.tellFailure t).steady = s.steady := by
  unfold State.tellFailure; split <;> simp

@[simp] theorem State.expireEntry_steady (e : Entry) : (s.expireEntry e).steady = s.steady := by
  unfold State.expireEntry; dsimp only; split <;> simp

@[simp] theorem State.putBack_steady (t : Transaction) (n : Nat) : (s.putBack t n).steady = s.steady := by
  unfold State.putBack
  dsimp only
  split
  · simp
  · split
    · simp
    · split <;> simp

@[simp] theorem State.consumeAttempt_steady (t : Transaction) : (s.consumeAttempt t).steady = s.steady := by
  unfold State.consumeAttempt
  split
  · rfl
  · split <;> simp

@[simp] theorem State.mute_steady (p : Port) : (s.mute p).steady = s.steady := by
  unfold State.mute
  dsimp only
  simp only [State.notifyBoth_steady, State.requestPass_steady, State.setTerminal_steady]
  split <;> split <;> simp

@[simp] theorem State.applySuccess_steady (t : Transaction) (r : Reply) : (s.applySuccess t r).steady = s.steady := by
  simp [State.applySuccess]

@[simp] theorem State.applyMismatch_steady (t : Transaction) (r : Reply) : (s.applyMismatch t r).steady = s.steady := by
  simp [State.applyMismatch]

@[simp] theorem State.applyFailure_steady (t : Transaction) : (s.applyFailure t).steady = s.steady := by
  unfold State.applyFailure; dsimp only; split <;> simp

@[simp] theorem State.applyFlag_steady (t : Transaction) : (s.applyFlag t).steady = s.steady := by simp [State.applyFlag]

@[simp] theorem State.endTransaction_steady (i : LaneId) (t : Transaction) (o : LaneOutcome) :
    (s.endTransaction i t o).steady = s.steady := by
  unfold State.endTransaction
  dsimp only
  split
  · simp
  · split
    · split <;> simp
    · simp
    · simp

@[simp] theorem State.faultPort_steady (p : Port) (c : FaultCause) : (s.faultPort p c).steady = s.steady := by
  unfold State.faultPort
  dsimp only
  split
  · rw [State.requestPass_steady, State.notifyBoth_steady, State.modPort_steady, State.setTerminal_steady,
      State.clearRuns_steady, State.setFeed_steady, State.modPort_steady]
    all_goals exact fun _ => rfl
  · rw [State.checkReleased_steady, State.notifyBoth_steady, State.setTerminal_steady, State.clearRuns_steady,
      State.setFeed_steady, State.modPort_steady, State.removeEntry_steady, State.modPort_steady]
    all_goals exact fun _ => rfl

@[simp] theorem State.judgeOverdraw_steady (m : MeasSet) (p : Port) : (s.judgeOverdraw m p).steady = s.steady := by
  unfold State.judgeOverdraw
  dsimp only
  split
  · split
    · simp
    · exact s.modPort_steady p _ fun _ => rfl
  · exact s.modPort_steady p _ fun _ => rfl

@[simp] theorem State.recoverPort_steady (p : Port) : (s.recoverPort p).steady = s.steady := by simp [State.recoverPort]

@[simp] theorem State.judgeNoLoad_steady (m : MeasSet) (p : Port) : (s.judgeNoLoad m p).steady = s.steady := by
  unfold State.judgeNoLoad
  dsimp only
  have h0 : (s.modPort p fun r => { r with noLoadRun := 0 }).steady = s.steady := s.modPort_steady p _ fun _ => rfl
  have h1 : (s.modPort p fun r => { r with noLoadRun := min (r.noLoadRun + 1) 10 }).steady = s.steady :=
    s.modPort_steady p _ fun _ => rfl
  split
  · split <;> split <;> simp [h0, h1]
  · exact h0

@[simp] theorem State.judgePort_steady (m : MeasSet) (p : Port) : (s.judgePort m p).steady = s.steady := by
  simp [State.judgePort]

end outcomes

/-! ### Machine/Modes.lean -/

section modes

variable (s : State)

@[simp] theorem State.setMode_steady (m : Mode) (q : Qual) (n : Nat) : (s.setMode m q n).steady = s.steady :=
  s.modMains_steady _ (fun _ => rfl) fun _ => rfl

@[simp] theorem State.startQual_steady (m : Mode) (q : Qual) : (s.startQual m q).steady = s.steady := by
  simp [State.startQual]

@[simp] theorem State.endWakes_steady : s.endWakes.steady = s.steady := by
  unfold State.endWakes; rw [State.modWakes_steady]; exact s.mapPorts_steady _ fun _ _ => rfl

@[simp] theorem State.endReleases_steady : s.endReleases.steady = s.steady := s.mapPorts_steady _ fun _ _ => rfl

@[simp] theorem State.startRelease_steady (p : Port) : (s.startRelease p).steady = s.steady := by
  have h : (s.modPort p fun r => { r with release := true }).steady = s.steady := s.modPort_steady p _ fun _ => rfl
  unfold State.startRelease; dsimp only; split <;> simp [h]

@[simp] theorem State.startReleases_steady : s.startReleases.steady = s.steady :=
  foldl_steady _ (fun s p => by split <;> simp) _ s

@[simp] theorem State.offUnlessFed_steady (p : Port) : (s.offUnlessFed p).steady = s.steady := by
  unfold State.offUnlessFed; split <;> first | rfl | exact s.setFeed_steady p .off

theorem PortRecord.atResumedOutage_steady (r : PortRecord) (n : Nat) : (r.atResumedOutage n).steady = r.steady := by
  unfold PortRecord.atResumedOutage; split <;> rfl

@[simp] theorem State.resumePorts_steady : s.resumePorts.steady = s.steady := by
  unfold State.resumePorts
  rw [State.mapPorts_steady _ _ fun _ _ => PortRecord.atResumedOutage_steady _ _]
  simp

@[simp] theorem State.resumeOutage_steady : s.resumeOutage.steady = s.steady := by simp [State.resumeOutage]

@[simp] theorem State.depletePort_steady (p : Port) : (s.depletePort p).steady = s.steady := by
  unfold State.depletePort
  rw [State.modPort_steady, State.clearRuns_steady]
  · split <;> first | rfl | exact s.setFeed_steady p .off
  · exact fun _ => rfl

@[simp] theorem State.cancelOutage_steady : s.cancelOutage.steady = s.steady := by
  simp [State.cancelOutage]

@[simp] theorem State.edgeTable_steady (present : Bool) : (s.edgeTable present).steady = s.steady := by
  unfold State.edgeTable; split <;> simp [State.enterRestoring, State.loseInRestoring]

@[simp] theorem State.requalify_steady : s.requalify.steady = s.steady := by
  unfold State.requalify; split <;> simp

end modes

end Sys2Proof.Machine
end

