-- ==== Sys2Proof/Tests/Slice0.lean ====
section
/-! SUPPORT. Small tests: the well-formedness checks, the manual's worked examples, one step each of a few commands, and
for every statement of Obligations.lean that has hypotheses a state and operands that meet them. -/

namespace Sys2Proof.Tests

-- One test at a time: each pending test would hold a thread.
set_option Elab.async false

open Sys2Proof Sys2Proof.Machine

/-! ### Well-formedness: each check refuses an ill-formed command -/

/-- 25 parameter bytes, one more than a command frame carries (R158). -/
def longParams : List Byte := List.replicate 25 0

theorem test_wellFormed_params_length : (Instr.readPort .oLink 7 longParams).wellFormed = false := by decide
theorem test_wellFormed_unknown_length : (Instr.unknownCmd .oLink 7 0x60 longParams).wellFormed = false := by decide
theorem test_wellFormed_unknown_known : (Instr.unknownCmd .oLink 7 0x30 []).wellFormed = false := by decide
theorem test_wellFormed_unknown_reply : (Instr.unknownCmd .oLink 7 0xE0 []).wellFormed = false := by decide
theorem test_wellFormed_overrun_reply : (Instr.frameOverrun .oLink 7 0xB0 []).wellFormed = false := by decide
theorem test_wellFormed_overrun_length : (Instr.frameOverrun .oLink 7 0x30 longParams).wellFormed = false := by decide
theorem test_wellFormed_discard : (Instr.frameAddressDiscard .bLink 9 0x30 longParams).wellFormed = false := by decide
theorem test_wellFormed_part0 : (Instr.setOcvPart0 .bLink 7 [1]).wellFormed = false := by decide
theorem test_wellFormed_part1 : (Instr.setOcvPart1 .bLink 7 [0]).wellFormed = false := by decide
theorem test_wellFormed_test_entry : (Instr.notBeforeReached 0 .poll .test).wellFormed = false := by decide
theorem test_wellFormed_testBegin : (Instr.notBeforeReached 0 .testBegin .other).wellFormed = false := by decide
theorem test_wellFormed_wake_expiry : (Instr.entryExpiry 0 .wake .other).wellFormed = false := by decide
theorem test_wellFormed_test_expiry : (Instr.entryExpiry 0 .batteryQuery .test).wellFormed = false := by decide

/-! ### Frames (section 9.1) -/

/-- The check value of the CRC-8 with polynomial 0x07 from 0x00: 0xF4 for the characters 1 to 9. -/
theorem test_crc_check_value : crc8 [0x31, 0x32, 0x33, 0x34, 0x35, 0x36, 0x37, 0x38, 0x39] = 0xF4 := by decide +kernel

/-- READ-STATUS of part MODE, written out from the frame's table, its CRC worked out by hand. -/
theorem test_frame_readStatus :
    decodeFrame .oLink [0xA5, 0x07, 0x30, 0x01, 0x00, 0x96] = some (.readStatus .oLink 7 [0]) := by decide +kernel

/-- A broadcast BUILDING-LIMIT of 1. -/
theorem test_frame_buildingLimit :
    decodeFrame .bLink [0xA5, 0x00, 0x23, 0x01, 0x01, 0xEC] = some (.buildingLimit .bLink 0 [1]) := by decide +kernel

/-- SET-RESERVE of 30,000 AU, little-endian. -/
theorem test_frame_setReserve :
    decodeFrame .bLink [0xA5, 0x07, 0x22, 0x04, 0x30, 0x75, 0x00, 0x00, 0xFB] =
      some (.setReserve .bLink 7 [0x30, 0x75, 0x00, 0x00]) := by decide +kernel

/-- PORT-DRAW of P3 to 60 and 650 cW at the service address. -/
theorem test_frame_portDraw :
    decodeFrame .oLink [0xA5, 0x1F, 0x11, 0x05, 0x03, 0x3C, 0x00, 0x8A, 0x02, 0x8A] =
      some (.portDraw .oLink 31 [0x03, 0x3C, 0x00, 0x8A, 0x02]) := by decide +kernel

/-- The table gives no row a bit: no word spells a command. -/
theorem test_no_word_spells_a_command : decodeTableWord 8 0 = none ∧ State.reset.withFetchWord 8 0 = State.reset := by
  decide +kernel

/-! ### Worked examples of the manual -/

/-- Section 2.2, the examples of P_bank and P_p. -/
def workedSet : MeasSet :=
  { vBank := 48192, iBank := 3150, vFeed := 47904
    iPort := (((((Vector.replicate 32 0).set 0 128).set 1 13).set 2 12).set 3 135).set 4 12 |>.set 5 13 }

theorem test_powers : workedSet.bankPower = 15180 ∧ workedSet.portPower 0 = 613 ∧ workedSet.portPower 1 = 62 ∧
    workedSet.sumPower = 1498 := by decide +kernel

theorem test_powers_charging : { workedSet with vBank := 53008, iBank := -1200 }.bankPower = 0 := by decide +kernel

/-- Section 2.6, the worked debit. -/
theorem test_debit :
    ({ eBank := 149600, rLeft := 40000, resBank := 2900, resBldg := 1200, bAvg := 13000, bAvgStarted := true,
       breach := false } : Account).debit workedSet =
      { eBank := 149595, rLeft := 39996, resBank := 80, resBldg := 302, bAvg := 13062, bAvgStarted := true,
        breach := false } := by decide +kernel

/-- Section 2.5, the worked estimates, with C 200,000 AU and R_b 40,000 AU. -/
theorem test_estimates :
    [50400, 46512, 43504, 53760].map (fun v => ((estimate { defaultSettings with rB := 40000 } v).eBank,
      (estimate { defaultSettings with rB := 40000 } v).rLeft)) =
      [(149600, 40000), (35200, 35200), (0, 0), (200000, 40000)] := by decide +kernel

/-- The input of a pass with these values and no port. -/
def workedInput (clock eBank rLeft bAvg tHold : Nat) : PassInput :=
  { State.reset.passInput with clock := clock, eBank := eBank, rLeft := rLeft, bAvg := bAvg, tHold := tHold }

/-- Section 3.3, the worked allowances. -/
theorem test_allowances :
    ([workedInput 0 149600 40000 0 240, workedInput 3600 22000 12000 5000 240, workedInput 15000 1500 1200 4000 240,
      workedInput 15000 1500 1200 8000 240, workedInput 15000 1240 1200 4000 240, workedInput 300 22000 12000 5000 10].map
        fun i => (i.remS, i.raw, i.pAvail)) =
      [(14400, 27220, 9600), (10800, 2153, 2153), (900, 1020, 1020), (900, -180, 0), (900, -20, 0), (900, 39820, 9600)] := by
  decide +kernel

/-- Section 7.6, the worked grades. -/
theorem test_grades :
    ([(12900, 12400), (12480, 11704), (12800, 11840), (11400, 10960), (11200, 11320)].map fun v =>
      gradeOf defaultSettings v.1 v.2) = [.good, .weak, .failed, .failed, .weak] := by decide

/-- Section 5.3, the worked reply codes. -/
theorem test_reply_codes :
    judgeReply [false, false, false, true, false, false, false, false, false, false, false, false, false, false, false,
      true, true, true, false, true] = some ⟨.status, 1⟩ ∧
    judgeReply [false, false, true, false, true, true, false, false, false, false, false, true, true, true, false, false,
      false, true, false, false] = some ⟨.battery, 3100⟩ := by decide

/-- Section 5.2, the times at which the bursts end. -/
theorem test_bursts : [1, 4, 8, 16].map (burstsMs .wake) = [52, 268, 556, 1132] := by decide

/-! ### States for one step -/

/-- The part after reset with the unit address 7. -/
def rig : State := { State.reset with straps := 7 }

/-- The part in a mode. -/
def inMode (m : Mode) : State := rig.modMains fun x => { x with mode := m, sample := decide (m = .standby) }

/-- P0 enabled and in FULL, P1 enabled and in TRICKLE, a set valid, in a mode. -/
def fedIn (m : Mode) : State :=
  (((inMode m).modBank fun b => { b with valid := true, last := workedSet }).modPort 0 fun r =>
    { r with prov := { r.prov with enabled := true }, feed := .full, settle := .running 10000 }).modPort 1 fun r =>
      { r with prov := { r.prov with enabled := true }, feed := .trickle, trickleSince := some 0 }

/-- One command on a state. -/
def after (s : State) (c : Instr) : State :=
  match exec c s with
  | .next t => t
  | .fault _ => s
  | .refused _ => s

/-- R79: a trickle draw of 800 with a full draw of 700 sets both to 700 with OK_CLAMPED. -/
theorem test_portDraw_clamps :
    let t := after rig (.portDraw .oLink 7 [3, 0x20, 0x03, 0xBC, 0x02]);
    (t.port 3).prov.dt = 700 ∧ (t.port 3).prov.df = 700 ∧
      t.oLink.inFlight = some ⟨0x11, some (frameBytes 7 0x91 [1, 3, 0xBC, 0x02, 0xBC, 0x02])⟩ := by decide +kernel

/-- R9: OUTAGE counted from 0 to 1, the account of section 2.5, and OUTAGE_BEGIN at both links. -/
theorem test_outage_start :
    let s := (rig.modBank fun b => { b with valid := true, last := { emptySet with vBank := 50400 } }).modMains fun m =>
      { m with mode := .qualifying, sample := false, qual := .outage, count := 2000 };
    let t := after s .outageTimerExpiry;
    t.mode = .outage ∧ t.mains.outageNumber = 1 ∧ t.account.eBank = 149600 ∧ t.oLink.notices.getLsbD 0 = true ∧
      t.bLink.notices.getLsbD 0 = true := by decide +kernel

/-- R24: the third debited set below V_cut takes the part to DEPLETED. -/
theorem test_third_low_scan_depletes :
    let s := (fedIn .outage).modBank fun b => { b with scanPos := some 1, accountMark := true, cutoffRun := 2 };
    let t := after s (.scanComplete { vBank := 41984, iBank := 0, vFeed := 47904, iPort := Vector.replicate 32 0 });
    t.mode = .depleted ∧ t.account.eBank = 0 ∧ (t.port 0).feed = .off := by decide +kernel

/-- R71: the third fault locks the port out. -/
theorem test_third_fault_locks_out :
    ((after ((fedIn .outage).modPort 0 fun r => { r with faultCount := 2 }) (.trip 0 1501 [])).port 0).feed = .lockedOut := by
  decide +kernel

/-- R69: the trip of a FULL port needs more than 1,500 mA. -/
theorem test_trip_at_the_limit : after (fedIn .outage) (.trip 0 1500 []) = fedIn .outage := by decide +kernel

/-- P1 at this tick count, in TRICKLE since 0 at a limit of 12 mA. -/
def limitedAt (tick : Nat) : State := (fedIn .outage).modTime fun t => { t with tick := tick }

/-- 100 ms of a stage at 12 mA with the pair at this voltage in the last of them. -/
def limitedFor (last : Nat) : List PairReading := List.replicate 99 ⟨12, 19999⟩ ++ [⟨12, last⟩]

/-- R69: in TRICKLE the trip fires after 100 ms at the limit below 20,000 mV, and on no break of them, nor before TRICKLE has
stood so long. -/
theorem test_trip_in_trickle :
    ((after (limitedAt 100) (.trip 1 0 (limitedFor 19999))).port 1).feed = .fault ∧
      after (limitedAt 100) (.trip 1 0 (limitedFor 20000)) = limitedAt 100 ∧
      after (limitedAt 100) (.trip 1 0 (⟨11, 0⟩ :: (limitedFor 19999).tail)) = limitedAt 100 ∧
      after (limitedAt 100) (.trip 1 0 (limitedFor 19999).tail) = limitedAt 100 ∧
      after (limitedAt 99) (.trip 1 0 (limitedFor 19999)) = limitedAt 99 := by decide +kernel

/-- R19, R12: the mode becomes STANDBY with a scan in progress that was started in RELEASING, which is not debited then. -/
theorem test_released_scan_is_not_debited :
    let s := ((fedIn .releasing).modPort 1 fun r => { r with feed := .off, trickleSince := none }).modBank fun b =>
      { b with scanPos := some 1, accountMark := true };
    let t := after s (.trip 0 1501 []);
    t.mode = .standby ∧ t.bank.scanPos = some 1 ∧ t.bank.accountMark = false := by decide +kernel

/-! ### Witnesses: for each statement with hypotheses, a state and operands that meet them

Each theorem is named after its statement; where the statement has clauses with hypotheses of their own, each is met, at a
boundary value where it has a range. -/

theorem witness_StepTakesFront : ({ rig with pending := [.secondTick] } : State).pending = .secondTick :: [] := rfl

theorem lane_rig : ∀ i : LaneId, rig.lane i = none := by decide +kernel

theorem queueLegal_reset : rig.QueueLegal :=
  ⟨Nat.zero_le 48, List.Pairwise.nil, fun i _ _ t _ h => by rw [lane_rig i] at h; cases h⟩

theorem lanesLegal_rig : rig.LanesLegal := fun i t h => by rw [lane_rig i] at h; cases h

theorem witness_IdleStepIsOneMillisecond :
    rig.pending = [] ∧ rig.isRunning = true ∧ rig.QueueLegal ∧ rig.LanesLegal ∧
      ({ rig with phase := .off } : State).isRunning = false := ⟨rfl, rfl, queueLegal_reset, lanesLegal_rig, rfl⟩

theorem witness_EveryCommandIsTaken :
    ({ rig with phase := .resetHeld } : State).phase ≠ .running ∧ (∀ m a, Instr.secondTick ≠ .powerOnReset m a) ∧
      (∀ m a, Instr.secondTick ≠ .hardResetEnd m a) ∧ Instr.secondTick ≠ .lossOfSupply := ⟨by decide, nofun, nofun, nofun⟩

theorem witness_CommandFramesRoundTrip :
    (Instr.poll .oLink 7 [31, 2]).wellFormed = true ∧ (Instr.poll .oLink 7 [31, 2]).frame? = some ⟨.oLink, 7, 0x15, [31, 2]⟩ ∧
      (∀ l a c ps, Instr.poll .oLink 7 [31, 2] ≠ .frameAddressDiscard l a c ps) ∧
      (∀ l a c ps, Instr.poll .oLink 7 [31, 2] ≠ .frameOverrun l a c ps) := ⟨by decide, rfl, nofun, nofun⟩

theorem witness_CommandFramesRoundTrip_longest :
    (Instr.unknownCmd .bLink 7 0x7F (List.replicate 24 1)).wellFormed = true ∧
      (∀ l a c ps, Instr.unknownCmd .bLink 7 0x7F (List.replicate 24 1) ≠ .frameAddressDiscard l a c ps) ∧
      (∀ l a c ps, Instr.unknownCmd .bLink 7 0x7F (List.replicate 24 1) ≠ .frameOverrun l a c ps) := ⟨by decide, nofun, nofun⟩

theorem witness_DamagedFramesAreBad :
    ((List.replicate 24 (1 : Byte)).length = (24 : Byte).toNat ∧ (isCommandCode 0x30 = true → (24 : Byte).toNat ≤ 24) ∧
      (0 : Byte) ≠ crc8 (7 :: 0x30 :: 24 :: List.replicate 24 1)) ∧
    (isCommandCode 0x30 = true ∧ 24 < (25 : Byte).toNat) ∧
    ((isCommandCode 0x30 = true → (24 : Byte).toNat ≤ 24) ∧ (List.replicate 24 (1 : Byte)).length ≤ (24 : Byte).toNat) ∧
    (0xA4 : Byte) ≠ 0xA5 := by decide +kernel

/-- Of WAKE: on the B-link, on the O-link in STANDBY, and with two parameter bytes in OUTAGE. -/
theorem witness_ChecksAreMadeInOrder :
    let c : CommandSpec := ⟨0x14, .oOnly, .outageOnly, 1⟩;
    c ∈ commandTable ∧ (rig.ready .bLink 7 = true ∧ c.authority.allows .bLink = false) ∧
      (rig.ready .oLink 7 = true ∧ c.authority.allows .oLink = true ∧ c.availability.allows rig.mode = false) ∧
      ((inMode .outage).ready .oLink 31 = true ∧ c.availability.allows (inMode .outage).mode = true ∧
        [1, (2 : Byte)].length ≠ c.length) ∧ (List.replicate 24 (0 : Byte)).length ≤ 24 := by decide +kernel

theorem witness_ChecksAreMadeInOrder_parameters :
    (inMode .outage).ready .oLink 7 = true ∧ 31 < (32 : Byte).toNat ∧ (inMode .outage).mode = .outage ∧
      (inMode .restoring).mode.runsPasses = true ∧ 11 < (12 : Byte).toNat ∧ 2 < (3 : Byte).toNat ∧ (31 : Byte).toNat ≤ 31 ∧
      8 < (9 : Byte).toNat ∧ 4 < (5 : Byte).toNat ∧ 1 < (2 : Byte).toNat := by decide +kernel

/-- A command of each link is in flight. -/
def busy : State :=
  (rig.modLink .oLink fun c => { c with inFlight := some ⟨0x30, some [0]⟩ }).modLink .bLink fun c =>
    { c with inFlight := some ⟨0x30, some [0]⟩ }

/-- The O-link sends its reply from tick 0. -/
def replying : State := rig.modLink .oLink fun c => { c with inFlight := some ⟨0x30, some [0]⟩, sendFrom := some 0 }

theorem witness_FramesAndFramerEvents_sending :
    (replying.link .oLink).inFlight = some ⟨0x30, some [0]⟩ ∧ (replying.link .oLink).sendFrom = some 0 ∧ 0 ≤ replying.now ∧
      replying.isRunning = true ∧ rig.sending .oLink = false ∧ rig.sending .bLink = false ∧ busy.sending .oLink = false ∧
      busy.sending .bLink = false ∧ (rig.taken .oLink).sending .oLink = false := by decide +kernel

theorem witness_FramesAndFramerEvents :
    (rig.ready .oLink 7 = true ∧ isCommandCode 0x60 = true ∧ (0x60 : Byte) ∉ commandCodes) ∧
    (rig.isRunning = true ∧ (rig.link .bLink).silent = true ∧ isCommandCode 0xB0 = false) ∧
    (isCommandCode 0x30 = true ∧ rig.addressed .bLink 0 = false ∧
      ¬ (Link.bLink = .bLink ∧ (0 : Byte) = 0 ∧ (0x23 : Byte) = 0x23 ∧ [1, (2 : Byte)].length = 1)) ∧
    (busy.isRunning = true ∧ (busy.link .oLink).silent = true ∧ (busy.link .oLink).inFlight.isSome = true ∧
      busy.addressed .oLink 31 = true) ∧
    ((busy.link .bLink).inFlight.isSome = true ∧ [(1 : Byte)].length = 1) := by decide +kernel

theorem witness_FramesAndFramerEvents_events :
    ((rig.taken .oLink).isRunning = true ∧ ((rig.taken .oLink).link .oLink).silent = false) ∧
    (busy.link .oLink).silent = true ∧ (busy.link .oLink).inFlight = some ⟨0x30, some [0]⟩ ∧
    ((rig.modLink .oLink fun c => { c with pulseEnd := some 5 }).link .oLink).pulseEnd = some 5 := by decide +kernel

theorem witness_ReadsAnswer :
    rig.ready .bLink 7 = true ∧ (1 ≤ (1 : Byte).toNat ∧ (8 : Byte).toNat ≤ 8) ∧ (31 : Byte).toNat < 32 := by decide +kernel

/-- The O-link's output in pulse style with a width of 5 ms. -/
def pulsing : State := rig.modLink .oLink fun c => { c with cfg := { c.cfg with width := 5 } }

theorem witness_NoticesAndAttn :
    rig.ready .oLink 7 = true ∧
    ((pulsing.link .oLink).cfg.width ≠ 0 ∧ (pulsing.link .oLink).pulseEnd = none ∧
      (pulsing.link .oLink).cfg.mask.getLsbD Notice.outageBegin.number = true ∧
      (pulsing.link .oLink).notices.getLsbD Notice.outageBegin.number = false) ∧
    (pulsing.link .oLink).notices.getLsbD Notice.settingsDefaulted.number = true ∧
    (rig.isRunning = true ∧ (rig.link .oLink).cfg.width = 0) ∧ pulsing.isRunning = true ∧
    ({ rig with phase := .resetHeld } : State).isRunning = false := by decide +kernel

/-- A full slot of a link, in a mode, that matches every port and kind. -/
def fullSlot (l : Link) (m : SlotMode) : Slot :=
  { owner := some l, ports := BitVec.allOnes 32, kinds := 15, mode := m, overwritten := false, lost := 0,
    content := some ⟨0, .status, 1, 1, 0⟩ }

/-- Slot 11 full, in a mode, and the B-link's. -/
def slotted (m : SlotMode) : State := rig.modSlot 11 fun _ => fullSlot .bLink m

theorem witness_SlotsAndDelivery :
    rig.ready .oLink 7 = true ∧ (11 : Byte).toNat < 12 ∧ (rig.slot 11).owner = none ∧ (rig.slot 11).content = none ∧
    ((slotted .hold).slot 11).owner = some .bLink ∧ Link.bLink ≠ .oLink ∧
    ((slotted .hold).slot 11).content = some ⟨0, .status, 1, 1, 0⟩ := by decide +kernel

theorem witness_SlotsAndDelivery_delivery :
    (let s := (slotted .hold).modSlot 11 fun t => { t with content := none };
      (s.slot 11).matches 31 .ack = true ∧ (s.slot 11).content = none ∧
        ∀ j : SlotId, j < 11 → (s.slot j).matches 31 .ack = true → (s.slot j).content ≠ none) ∧
    (let s := slotted .replace;
      (∀ j : SlotId, (s.slot j).matches 31 .ack = true → (s.slot j).content ≠ none) ∧ (s.slot 11).matches 31 .ack = true ∧
        (s.slot 11).mode = .replace ∧
        ∀ j : SlotId, j < 11 → (s.slot j).matches 31 .ack = true → (s.slot j).mode = .hold) ∧
    (let s := slotted .hold;
      (∀ j : SlotId, (s.slot j).matches 31 .ack = true → (s.slot j).mode = .hold) ∧ (s.slot 11).matches 31 .ack = true ∧
        ∀ j : SlotId, j < 11 → (s.slot j).matches 31 .ack = false) ∧
    (∀ j : SlotId, (rig.slot j).matches 31 .ack = false) := by decide +kernel

/-- A record with this number. -/
def record (n : BitVec 16) : TestRecord :=
  { seq := n, outageNumber := 1, port := 0, origin := .oLink, start := 0, dwell := 0, outcome := .noReport, v0 := none,
    v1 := none }

/-- `n` records numbered from 0, the O-link's cursor on the oldest and the B-link's at the end. -/
def ringed (n : Nat) (m : RingMode) : State :=
  ({ rig with settings := { rig.settings with ringMode := m } }.modRing fun g =>
    { g with records := (List.range n).map fun i => record (BitVec.ofNat 16 i), nextSeq := BitVec.ofNat 16 n }).modLink
      .oLink fun c => { c with cursor := if n = 0 then none else some 0 }

theorem witness_ResultCommands :
    (ringed 2 .wrap).ready .oLink 7 = true ∧ (ringed 2 .wrap).settings.ringMode = .wrap ∧
      0 < (ringed 2 .wrap).ring.records.length ∧
      ((ringed 2 .wrap).link .oLink).cursor = ((ringed 2 .wrap).ring.records[0]?).map (fun r => r.seq) ∧
      ((ringed 2 .wrap).link .bLink).cursor = none := by decide +kernel

theorem witness_ResultCommands_hold :
    let s := ringed 2 .hold;
    s.ready .oLink 7 = true ∧ s.settings.ringMode = .hold ∧ s.tests.queue = [] ∧ s.budget.requested = 0 ∧
      s.cursorRecord .oLink = some (record 0, 0) ∧ s.cursorRecord .bLink = none ∧ (1 : Byte).toNat ≤ 1 ∧
      (s.link .oLink).follow ≠ ((0 : Byte) ≠ 0 : Bool) ∧ (s.link .oLink).follow = ((1 : Byte) ≠ 0 : Bool) := by
  decide +kernel

theorem ringLegal_ringed_two : (ringed 2 .hold).RingLegal := by
  unfold State.RingLegal cursorStands; decide +kernel

theorem ringLegal_ringed_full : (ringed 64 .hold).RingLegal := by
  unfold State.RingLegal cursorStands; decide +kernel

/-- The B-link follows from the end, the O-link does not follow and stands on the oldest record. -/
theorem witness_SweepsRemoveWhatFollowersHavePassed :
    let s := ((ringed 2 .hold).modLink .oLink fun c => { c with follow := false }).modLink .bLink fun c =>
      { c with follow := true };
    s.settings.ringMode = .hold ∧ s.RingLegal ∧ (s.link .bLink).follow = true ∧
      cursorIndex s.ring.records (s.link .oLink).cursor < 2 ∧ cursorIndex s.ring.records (s.link .bLink).cursor = 2 := by
  unfold State.RingLegal cursorStands; decide +kernel

theorem witness_AppendTakesTheNextNumber :
    (ringed 64 .hold).RingLegal ∧ ((ringed 64 .hold).link .bLink).cursor = none ∧
      (ringed 64 .hold).ring.records.length = 64 ∧
      ((ringed 64 .hold).link .oLink).cursor = ((ringed 64 .hold).ring.records.head?).map (fun r => r.seq) ∧
      (ringed 2 .hold).RingLegal ∧ ((ringed 2 .hold).link .oLink).cursor = some 0 ∧
      (ringed 2 .hold).ring.records.length < 64 :=
  ⟨ringLegal_ringed_full, by decide +kernel, by decide +kernel, by decide +kernel, ringLegal_ringed_two, by decide +kernel,
    by decide +kernel⟩

theorem witness_BudgetSettings :
    (inMode .outage).ready .oLink 7 = true ∧ (inMode .outage).ready .bLink 7 = true ∧
      (inMode .outage).budget.requested = 0 ∧ (3 : Fin 4).val = min (4 : Byte).toNat 3 ∧
      ((inMode .outage).isRunning = true ∧ (inMode .outage).bLink.silent = true ∧ (inMode .outage).bLink.inFlight = none) := by
  decide +kernel

theorem witness_BankSettings :
    ∀ m : Mode, m = .outage ∨ m = .standby → (inMode m).ready .bLink 7 = true ∧ (inMode m).budget.requested = 0 ∧
      (inMode m).mode = m := by
  rintro m (rfl | rfl) <;> decide +kernel

/-- Bytes of five points: 44,000 to 49,000 mV, and 49,000 to 53,000 mV, of the default table. -/
def partZero : List Byte := (defaultOcv.toList.take 5).flatMap OcvPoint.bytes
def partOne : List Byte := (defaultOcv.toList.drop 4).flatMap OcvPoint.bytes

theorem witness_SetOcv :
    let staged := stagedPoints (ocvPoints partZero);
    rig.ready .bLink 7 = true ∧ partZero.length = 20 ∧ partOne.length = 20 ∧ 1 < (2 : Byte).toNat ∧ rig.staging = none ∧
      ({ rig with staging := some staged } : State).staging = some staged ∧
      (ocvPoints partZero)[0]? ≠ some staged[4] ∧ (ocvPoints partOne)[0]? = some staged[4] ∧
      ocvValid (joinedTable staged (ocvPoints partOne)) = true := by decide +kernel

/-- A table whose second half repeats a voltage is not valid. -/
theorem witness_SetOcv_invalid :
    let staged := stagedPoints (ocvPoints partZero);
    let half := partOne.take 16 ++ partOne.take 4;
    half.length = 20 ∧ (ocvPoints half)[0]? = some staged[4] ∧ ocvValid (joinedTable staged (ocvPoints half)) = false := by
  decide +kernel

/-- A qualification in progress that stands at this count. -/
def qualifying (m : Mode) (q : Qual) (n : Nat) (sample : Bool) : State :=
  (fedIn m).modMains fun x => { x with qual := q, count := n, sample := sample }

/-- With T_q 2,000 and T_r 10 in EDGE style: a repetition, a change below the count, and the four due cases. -/
theorem witness_SetMains :
    (qualifying .qualifying .outage 2000 false).ready .bLink 7 = true ∧
    (defaultSettings.style = .edge ∧ defaultSettings.tq = 2000 ∧ defaultSettings.tr = 60) ∧
    (qualifying .qualifying .outage 1999 false).mains.count < qualTarget .outage .edge 2000 60 ∧
    (qualTarget .outage .edge 500 60 ≤ (qualifying .qualifying .outage 500 false).mains.count ∧
      (qualifying .qualifying .outage 500 false).bank.valid = true) ∧
    ((qualifying .qualifying .outage 500 false).modBank fun b => { b with valid := false }).bank.valid = false ∧
    (qualTarget .restore .edge 2000 10 ≤ (qualifying .restoring .restore 10000 true).mains.count ∧
      (qualifying .restoring .restore 10000 true).mode = .restoring) ∧
    (qualifying .depleted .restore 10000 true).mode = .depleted := by decide +kernel

theorem witness_SetRing :
    (ringed 2 .wrap).ready .bLink 7 = true ∧ (ringed 2 .wrap).settings.ringMode = .wrap ∧
      (ringed 2 .hold).settings.ringMode ≠ .wrap ∧ (ringed 2 .hold).tests.queue = [] ∧
      (ringed 2 .hold).budget.requested = 0 ∧ (ringed 2 .wrap).settings.ringMode ≠ .hold ∧
      (ringed 2 .wrap).tests.queue = [] ∧ (ringed 2 .wrap).budget.requested = 0 ∧ RingMode.hold ≠ .wrap := by decide +kernel

theorem witness_TestAndWakeSettings : rig.ready .oLink 7 = true := by decide +kernel

/-- A write of the image that the O-link asked for. -/
def writing : State := { rig with store := { rig.store with write := some ⟨.oLink, rig.imageNow⟩ } }

theorem witness_SettingsAreSavedAsTaken :
    writing.ready .bLink 7 = true ∧ writing.store.write = some ⟨.oLink, rig.imageNow⟩ ∧ Link.oLink ≠ .bLink ∧
      (∀ w, rig.store.write = some w → w.link = .oLink) ∧ rig.ready .oLink 7 = true ∧ rig.store.write = none ∧
      (writing.isRunning = true ∧ ∀ l, (writing.modLink l fun c => { c with silent := false }).ready l 7 = false) :=
  ⟨by decide +kernel, rfl, by decide, nofun, by decide +kernel, rfl, rfl, by intro l; cases l <;> decide +kernel⟩

theorem witness_RestartStartsAfresh :
    (fedIn .outage).ready .oLink 7 = true ∧ (∀ w, (fedIn .outage).store.write = some w → w.link = .oLink) ∧
      (fedIn .outage).account.rLeft ≤ (fedIn .outage).account.eBank ∧
      (∀ p, ((fedIn .outage).port p).feed = .testing → ((fedIn .outage).testOf p).isSome = true) ∧
      defaultImage = (match (fedIn .outage).store.image with
        | .written d crc => if crc = Config.imageCrc d.values then d else defaultImage
        | .blank | .incomplete => defaultImage) :=
  ⟨by decide +kernel, nofun, by decide +kernel, by decide +kernel, rfl⟩

/-! #### Ports and terminals -/

theorem witness_PortSet :
    (fedIn .outage).ready .oLink 7 = true ∧ (fedIn .outage).budget.requested = 0 ∧ (31 : Byte).toNat < 32 ∧
      ((fedIn .outage).port 0).prov.enabled = ((1 : Byte) ≠ 0 : Bool) ∧
      ((fedIn .outage).port 31).prov.enabled ≠ ((1 : Byte) ≠ 0 : Bool) ∧ ((fedIn .outage).port 31).feed = .off ∧
      (fedIn .outage).mode.runsPasses = true ∧ ((fedIn .outage).port 0).prov.enabled ≠ ((0 : Byte) ≠ 0 : Bool) ∧
      ((fedIn .outage).port 0).feed.candidate = true ∧ (fedIn .releasing).mode = .releasing := by decide +kernel

/-- P0 of the fed ports in another feed state. -/
def inFeed (f : FeedState) : State := (fedIn .outage).modPort 0 fun r => r.withFeed f 0

/-- R40: a port in FAULT that is disabled, a disabled LOCKED_OUT port that PORT-CLEAR takes to OFF, and a WAKE command that
parks a wake request the kinds FEED, FEED, and DEMAND with WAKE. -/
theorem test_the_kinds_of_R40 :
    ((after (inFeed .fault) (.portSet .oLink 7 [0, 0, 2, 4])).budget.work.map fun w => w.causes &&& 0x10) = some 0x10 ∧
      ((after ((inFeed .lockedOut).modPort 0 fun r => { r with prov := { r.prov with enabled := false } })
        (.portClear .oLink 7 [0])).budget.work.map fun w => w.causes) = some 0x10 ∧
      ((after (fedIn .outage) (.wake .oLink 7 [1])).budget.work.map fun w => w.causes) = some 0xA0 := by decide +kernel

theorem witness_PortSet_fault :
    (inFeed .fault).ready .oLink 7 = true ∧ (inFeed .fault).budget.requested = 0 ∧
      ((inFeed .fault).port 0).prov.enabled ≠ ((0 : Byte) ≠ 0 : Bool) ∧ ((inFeed .fault).port 0).feed = .fault ∧
      (inFeed .fault).mode.runsPasses = true := by decide +kernel

theorem witness_PortDrawAndClear :
    (fedIn .outage).ready .oLink 7 = true ∧ (fedIn .outage).budget.requested = 0 ∧ (31 : Byte).toNat < 32 ∧
    (let s := (fedIn .outage).modPort 0 fun r => { r with feed := .lockedOut };
      (s.port 0).feed = .lockedOut ∧ (s.port 0).prov.enabled = true ∧ s.mode.runsPasses = true) ∧
    ((fedIn .standby).mode.runsPasses = false) ∧ ((fedIn .outage).port 0).feed ≠ .lockedOut := by decide +kernel

/-- A MUTED port that can be signalled, with an empty queue and with a full one. -/
def mutedPort : State := (fedIn .outage).modPort 0 fun r => { r with lineErr := 160 }

/-- An entry of the queue. -/
def entry (p : Port) (k : RequestKind) (o : Origin) : Entry :=
  { port := p, kind := k, origin := o, attempts := 2, enqueued := 0, notBefore := 0, inLane := false }

/-- 48 entries, none of P0 and none of P31. -/
def fullQueue : List Entry :=
  (List.finRange 32).flatMap fun p =>
    if p = 0 ∨ p = 31 then [] else if p.val < 19 then [entry p .poll .auto, entry p .drawQuery .auto] else [entry p .poll .auto]

/-- The state with its queue full. -/
def crowded (s : State) : State := s.modLsu fun u => { u with queue := fullQueue }

theorem test_fullQueue_length : fullQueue.length = 48 := by decide +kernel

theorem witness_LineRestore :
    mutedPort.ready .oLink 7 = true ∧ (0 : Byte).toNat < 32 ∧ (mutedPort.port 0).lineErr ≤ 160 ∧
      (mutedPort.port 0).lineErr = 160 ∧ mutedPort.mode.runsPasses = true ∧ (mutedPort.port 0).feed.signallable = true ∧
      mutedPort.entry? 0 .poll .other = none ∧ mutedPort.lsu.queue.length < 48 ∧
      ¬ (crowded mutedPort).lsu.queue.length < 48 ∧ (crowded mutedPort).entry? 0 .poll .other = none := by decide +kernel

/-- P0 settled in FULL, with or without a wake that stands. -/
def settled (w : Option WakeRecord) : State :=
  (fedIn .outage).modPort 0 fun r => { r with settle := .settled, wake := w }

theorem witness_Wake :
    (fedIn .outage).ready .oLink 7 = true ∧ (0 : Byte).toNat < 32 ∧ (fedIn .outage).mode = .outage ∧
    (fedIn .outage).budget.requested = 0 ∧ ((fedIn .outage).port 31).prov.enabled = false ∧
    (((fedIn .outage).port 0).prov.enabled = true ∧ ((fedIn .outage).port 0).terminal ≠ .awake ∧
      ((fedIn .outage).port 0).terminal ≠ .call) ∧
    ((settled (some ⟨.parked, 5⟩)).port 0).wake = some ⟨.parked, 5⟩ ∧
    (((fedIn .outage).port 1).wake = none ∧ ((fedIn .outage).port 1).feed ≠ .full) ∧
    (((fedIn .outage).port 0).feed = .full ∧ ((fedIn .outage).port 0).settle ≠ .settled) ∧
    (((settled none).port 0).settle = .settled ∧ (settled none).lsu.queue.length < 48) ∧
    (((crowded (settled none)).entry? 0 .wake .other).isSome = false ∧ 48 ≤ (crowded (settled none)).lsu.queue.length) := by
  decide +kernel

theorem witness_Poll :
    (fedIn .outage).ready .oLink 7 = true ∧ (0 : Byte).toNat < 32 ∧ (fedIn .outage).mode.runsPasses = true ∧
      (((fedIn .outage).modLsu fun u => { u with queue := [entry 0 .drawQuery .auto] }).entry? 0 .drawQuery .other).isSome =
        true ∧
      (((fedIn .outage).entry? 0 .poll .other).isSome = false ∧ (fedIn .outage).lsu.queue.length < 48 ∧
        (fedIn .outage).tests.queue = []) ∧
      (((crowded (fedIn .outage)).entry? 0 .poll .other).isSome = false ∧
        48 ≤ (crowded (fedIn .outage)).lsu.queue.length) := by decide +kernel

/-- P0's test at a stage; its port in TESTING in the dwell. -/
def testing (g : TestStage) : State :=
  ((fedIn .outage).modPort 0 fun r => { r with feed := if g = .dwell then .testing else r.feed }).modTests fun t =>
    { t with contexts := [{ port := 0, origin := .oLink, stage := g, start := 0, v0 := some 12000, v1 := none,
                            entered := some 0, dwellEnd := some 120000 }] }

theorem ringLegal_testing : (testing .dwell).RingLegal := by unfold State.RingLegal cursorStands; decide +kernel

theorem witness_TestCommands :
    (fedIn .outage).ready .oLink 7 = true ∧ (0 : Byte).toNat < 32 ∧ (fedIn .outage).mode = .outage ∧
    ((fedIn .outage).port 31).prov.enabled = false ∧
    (((fedIn .outage).port 0).prov.enabled = true ∧ ((testing .dwell).testOf 0).isSome = true) ∧
    ((fedIn .outage).testOf 0 = none ∧ (fedIn .outage).inTestQueue 0 = false ∧ (fedIn .outage).tests.queue = []) ∧
    (((fedIn .outage).port 0).feed.fed = true ∧ ((fedIn .outage).port 0).lineErr < 160 ∧
      ((fedIn .outage).port 0).terminal ≠ .absent ∧
      (fedIn .outage).tests.contexts.length < (fedIn .outage).settings.testLimit ∧ (fedIn .outage).ring.refusal = false ∧
      ((fedIn .outage).entry? 0 .batteryQuery .test).isSome = false ∧ (fedIn .outage).lsu.queue.length < 48) ∧
    ¬ (mutedPort.port 0).lineErr < 160 := by decide +kernel

theorem witness_TestCommands_abort :
    ((testing .dwell).ready .oLink 7 = true ∧ (testing .dwell).mode.runsPasses = true ∧
      ((testing .dwell).testOf 0).isSome = true ∧ (testing .dwell).tests.queue = [] ∧
      (testing .dwell).budget.requested = 0 ∧ ((testing .dwell).port 0).feed = .testing) ∧
    (testing .dwell).RingLegal ∧
    (let s := (fedIn .outage).modTests fun t => { t with queue := [(0, .oLink)] };
      s.testOf 0 = none ∧ s.inTestQueue 0 = true) ∧
    ((fedIn .outage).testOf 0 = none ∧ (fedIn .outage).inTestQueue 0 = false) :=
  ⟨by decide +kernel, ringLegal_testing, by decide +kernel, by decide +kernel⟩

/-- A test of P0 at a stage has its request in lane 3, with these attempts; in POST-QUERY its port is in TESTING. -/
def queried (g : TestStage) (attempts : Nat) : State × Transaction :=
  let k := if g = .begin_ then RequestKind.testBegin else .batteryQuery
  let x : Transaction :=
    { port := 0, kind := k, origin := .test, rEff := 4, stage := .listening, since := 0, decoder := .waitStart,
      samples := [], closed := false }
  (((((testing g).modPort 0 fun r => { r with feed := if g = .postQuery then .testing else r.feed }).modLsu fun u =>
    { u with queue := [{ entry 0 k .test with attempts := attempts, inLane := true }] }).setLane 3 (some x)), x)

theorem queueLegal_queried : ∀ g a, (queried g a).1.QueueLegal := by
  intro g a
  refine ⟨by cases g <;> exact (by decide : (1 : Nat) ≤ 48), ?_, ?_⟩
  · cases g <;> exact List.pairwise_singleton _ _
  · have h : ∀ i : LaneId, i ≠ 3 → (queried g a).1.lane i = none := by
      intro i hi
      fin_cases i <;> first | exact absurd rfl hi | (cases g <;> rfl)
    intro i j hij t u ht hu
    by_cases hi : i = 3
    · rw [h j (fun hj => hij (hi.trans hj.symm))] at hu; cases hu
    · rw [h i hi] at ht; cases ht

/-- Each stage that a reply moves, and each that a final failure ends. -/
theorem witness_TestCommands_stages :
    ∀ g ∈ [TestStage.preQuery, .begin_, .postQuery], ∀ a ∈ [1, 2],
      let s := (queried g a).1;
      let x := (queried g a).2;
      s.lane 3 = some x ∧ x.origin = .test ∧ s.orphaned x = false ∧ s.mode.runsPasses = true ∧
        (s.testOf 0).map (fun c => (c.stage, c.v0)) = some (g, some 12000) ∧
        (s.entry? 0 x.kind .test).map (fun e => e.attempts) = some a ∧ (s.port 0).prov.enabled = true ∧
        (s.port 0).feed = (if g = .postQuery then .testing else .full) ∧ (s.port 0).lineErr + 8 < 160 ∧
        x.kind = (if g = .begin_ then .testBegin else .batteryQuery) := by decide +kernel

/-! #### The mains line -/

/-- LEVEL style. -/
def level (s : State) : State := { s with settings := { s.settings with style := .level } }

/-- R3, R6: in LEVEL style with MAINS_OK absent, SECOND_TICK comes with the tick count at 1000, and the sample of that count
is used at the next tick, after which the next one is that of 1100. -/
theorem test_level_sample_stays_due :
    let s := ((level rig).modTime fun t => { t with tick := 999, sinceSecond := 999, lastLevel := 900 }).setSample false;
    let t := after s .secondTick;
    t.now = 1000 ∧ t.mode = .standby ∧ t.tick.now = 1001 ∧ t.tick.mode = .qualifying ∧ t.tick.mains.count = 1 ∧
      t.tick.tick.mains.count = 1 ∧ (after t.tick (.levelSample false)).now = 1100 := by decide +kernel

/-- R3: the samples that pass in EDGE style are not used after a change to LEVEL style. -/
theorem test_edge_samples_pass :
    let t := after (level (after (rig.setSample false) .secondTick)) (.levelSample false);
    t.now = 1100 ∧ t.mode = .qualifying ∧ t.mains.count = 1 := by decide +kernel

theorem witness_EdgeTable :
    rig.isRunning = true ∧ rig.mains.sample = true ∧ rig.mains.sample ≠ false ∧ (level rig).settings.style = .level ∧
      rig.settings.style = .edge ∧ rig.mode ≠ .releasing := by decide +kernel

/-- At the outage threshold of 20 samples, at the restore threshold of 600, and one below. -/
theorem witness_LevelTable :
    rig.isRunning = true ∧ rig.settings.style = .edge ∧
    (let s := level (qualifying .qualifying .outage 19 false);
      let m := ({ s.mains with sample := false } : Mains).atSample false;
      s.settings.style = .level ∧ qualTarget m.qual .level s.settings.tq s.settings.tr = m.count ∧ s.bank.valid = true) ∧
    (let s := level (qualifying .qualifying .outage 18 false);
      let m := ({ s.mains with sample := false } : Mains).atSample false;
      m.count < qualTarget m.qual .level s.settings.tq s.settings.tr) ∧
    (let s := level (qualifying .restoring .restore 599 true);
      let m := ({ s.mains with sample := true } : Mains).atSample true;
      qualTarget m.qual .level s.settings.tq s.settings.tr = m.count) ∧
    (let s := level (qualifying .depleted .restore 599 true);
      let m := ({ s.mains with sample := true } : Mains).atSample true;
      qualTarget m.qual .level s.settings.tq s.settings.tr = m.count ∧ s.mains.qual ≠ .none) := by decide +kernel

/-- QUALIFYING at its threshold, with the ports of R61 for that mode: P0 enabled and OFF, P1 LOCKED_OUT. -/
def dueOutage (valid : Bool) : State :=
  (((qualifying .qualifying .outage 2000 false).modBank fun b => { b with valid := valid }).modPort 0 fun r =>
    { r with feed := .off }).modPort 1 fun r => { r with feed := .lockedOut }

theorem witness_OutageStart :
    ((dueOutage true).isRunning = true ∧ (dueOutage true).settings.style = .edge ∧ (dueOutage true).mains.qual = .outage ∧
      (dueOutage true).mode = .qualifying ∧ (dueOutage true).mains.count ≤ (dueOutage true).settings.tq) ∧
    (∀ p, ((dueOutage true).port p).feed.unfed) ∧ (dueOutage false).bank.valid = false ∧
    (dueOutage true).bank.valid = true ∧
    (((dueOutage true).port 0).prov.enabled = true ∧ ((dueOutage true).port 0).feed = .off) ∧
    ((dueOutage true).port 1).feed = .lockedOut ∧ (dueOutage true).lsu.queue = [] ∧
    (after (dueOutage true) .outageTimerExpiry).budget.result.classes[(0 : Port)].feed.fed = true ∧
    ¬ (rig.settings.style = .edge ∧ rig.mains.qual = .outage ∧ rig.mode = .qualifying) := by
  unfold FeedState.unfed; decide +kernel

theorem witness_ResumedOutage :
    let s := (fedIn .releasing).modMains fun m => { m with sample := true };
    (s.isRunning = true ∧ s.settings.style = .edge ∧ s.mode = .releasing ∧ s.mains.sample = true) ∧
      (∀ p, (s.port p).feed.unfed ∨ (s.port p).feed.fed = true) ∧ (s.port 0).prov.enabled = true ∧
      (s.port 0).feed ≠ .lockedOut ∧ (s.port 1).feed.fed = true := by
  unfold FeedState.unfed; decide +kernel

/-- The mains loss in RELEASING by a LEVEL sample, and by a change of style. -/
theorem witness_ResumedOutage_level :
    (let s := level (fedIn .releasing);
      s.isRunning = true ∧ s.settings.style = .level ∧ s.mode = .releasing ∧
        (∀ p, (s.port p).feed.unfed ∨ (s.port p).feed.fed = true)) ∧
    (let s := (fedIn .releasing).setSample false;
      s.ready .bLink 7 = true ∧ s.mains.sample = false ∧ (if (1 : Byte) = 0 then .edge else .level) ≠ s.settings.style ∧
        s.mode = .releasing ∧ (∀ p, (s.port p).feed.unfed ∨ (s.port p).feed.fed = true)) := by
  unfold FeedState.unfed; decide +kernel

theorem queueLegal_rig : ∀ m : Mode, (fedIn m).QueueLegal := by
  intro m
  refine ⟨by cases m <;> decide +kernel, ?_, ?_⟩
  · have : (fedIn m).lsu.queue = [] := by cases m <;> rfl
    rw [this]; exact List.Pairwise.nil
  · have hl : ∀ i : LaneId, (fedIn m).lane i = none := by cases m <;> decide +kernel
    intro i j _ t u h
    rw [hl i] at h; cases h

theorem releasesLegal_fed : ∀ m, (fedIn m).ReleasesLegal := by
  intro m _
  refine ⟨by cases m <;> decide +kernel, ?_, ?_⟩
  · have : (fedIn m).lsu.queue = [] := by cases m <;> rfl
    rw [this]; simp
  · have hl : ∀ i : LaneId, (fedIn m).lane i = none := by cases m <;> decide +kernel
    intro i x h
    rw [hl i] at h; cases h

theorem releasesLegal_restore : (qualifying .restoring .restore 60000 true).ReleasesLegal :=
  fun h => ⟨nofun, (releasesLegal_fed .restoring h).2⟩

theorem witness_RestoreTimer :
    (let s := qualifying .restoring .restore 60000 true;
      s.isRunning = true ∧ s.settings.style = .edge ∧ s.mains.qual = .restore ∧ s.mode = .restoring ∧
        (s.port 0).feed.fed = true) ∧
    (qualifying .restoring .restore 60000 true).ReleasesLegal ∧
    ((qualifying .depleted .restore 60000 true).mode = .depleted ∧ (qualifying .depleted .restore 60000 true).ReleasesLegal) ∧
    ¬ (rig.settings.style = .edge ∧ rig.mains.qual = .restore) :=
  ⟨by decide +kernel, releasesLegal_restore, ⟨rfl, fun h => ⟨nofun, (releasesLegal_fed .depleted h).2⟩⟩, by decide +kernel⟩

theorem witness_SecondTick : rig.isRunning = true ∧ 1000 = 1000 - rig.time.sinceSecond := by decide +kernel

/-- A survey that falls due at the next second tick, with P2 in the test queue and two ports that it can add. -/
def surveyed : State :=
  { (fedIn .outage).modTests fun t => { t with queue := [(2, .oLink)], survey := .waiting } with
    settings := { rig.settings with surveyDelay := 1 } }

/-- The survey adds P0 and P1 after P2, and the walk passes over P2, which is disabled, and starts them. -/
theorem witness_SecondTick_survey :
    surveyed.isRunning = true ∧ (surveyed.tests.queue.map fun e => e.1).Nodup ∧
    surveyed.lsu.queue.length + surveyed.settings.testLimit ≤ 48 ∧
    2 = (if surveyed.mode = .outage ∧ surveyed.ring.refusal = false then
      surveyed.settings.testLimit - surveyed.tests.contexts.length else 0) ∧
    [(2, .oLink), (0, .survey), (1, .survey)] = surveyed.tests.queue ++
      (if surveyed.tests.survey = .waiting ∧ surveyed.mode.runsPasses = true ∧ surveyed.settings.surveyOn = true ∧
          surveyed.settings.surveyDelay ≤ min (surveyed.time.clock + 1) 4294967295 then
        (allPorts.filter fun p => decide ((surveyed.port p).prov.enabled = true ∧ (surveyed.port p).battery = .unknown ∧
          surveyed.testOf p = none ∧ ∀ e ∈ surveyed.tests.queue, e.1 ≠ p)).map fun p => (p, .survey)
      else []) ∧
    [((0 : Port), TestOrigin.survey), (1, .survey)] = ([((2 : Port), TestOrigin.oLink), (0, .survey), (1, .survey)].filter
      fun e => decide ((surveyed.port e.1).prov.enabled = true ∧ (surveyed.port e.1).feed.fed = true ∧
        (surveyed.port e.1).lineErr < 160 ∧ (surveyed.port e.1).terminal ≠ .absent ∧ surveyed.testOf e.1 = none)).take 2 := by
  decide +kernel

/-! #### The account, the budget and the ports -/

theorem witness_DebitFollowsTheLoops :
    ((13502 : Nat) : Int) = max 0 ((workedSet.bankPower : Int) - (workedSet.sumPower : Int) - 180) := by decide +kernel

theorem witness_MeasuredValues :
    (0 : Int) ≤ workedSet.iBank ∧ { workedSet with iBank := -1 }.iBank < 0 ∧ (65520 : Nat) ≤ 65520 ∧ (4095 : Nat) ≤ 4095 ∧
      (51175 : Int) ≤ 51175 ∧ (-51200 : Int) ≤ -51200 ∧ (0 : Int) ≤ 0 ∧ (-2048 : Int) ≤ 2047 := by decide +kernel

theorem witness_StateOfCharge :
    ocvValid defaultOcv = true ∧ 43999 < defaultOcv[0].v ∧ defaultOcv[8].v ≤ 53000 ∧
      defaultOcv[7].v ≤ 52999 ∧ 52999 < defaultOcv[8].v ∧ defaultOcv[0].v ≤ 44000 := by decide +kernel

/-- A scan in progress with its account mark and this cutoff count. -/
def scanning (m : Mode) (run : Nat) : State :=
  (fedIn m).modBank fun b => { b with scanPos := some 1, accountMark := true, cutoffRun := run }

/-- Readings with this bank voltage. -/
def readings (v : Int) : Readings := { vBank := v, iBank := 3150, vFeed := 47904, iPort := Vector.replicate 32 0 }

theorem witness_ScanComplete :
    rig.isRunning = true ∧ rig.bank.scanPos = none ∧
    ((scanning .standby 0).bank.scanPos ≠ none ∧ (scanning .standby 0).qualHeld = false ∧
      ((scanning .standby 0).bank.accountMark && decide ((scanning .standby 0).mode = .outage ∨
        (scanning .standby 0).mode = .restoring ∨ (scanning .standby 0).mode = .releasing)) = false) ∧
    (((scanning .outage 2).bank.accountMark && decide ((scanning .outage 2).mode = .outage ∨
        (scanning .outage 2).mode = .restoring ∨ (scanning .outage 2).mode = .releasing)) = true ∧
      (scanning .outage 2).qualHeld = false) ∧
    ((scanning .outage 2).account.debit workedSet).rLeft = 0 ∧ 0 < buildingDraw workedSet ∧
    (let s := (dueOutage false).modBank fun b => { b with scanPos := some 1 };
      s.bank.scanPos ≠ none ∧ s.qualHeld = true) := by decide +kernel

/-- Readings of P0 at 300 mA, 4 mA and 5 mA, with a bank voltage at V_cut. -/
def drawing (mA : Int) : Readings :=
  { vBank := 42000, iBank := 3150, vFeed := 47904, iPort := (Vector.replicate 32 0).set 0 mA }

/-- The scans that judge P0: above its limit at the fourth and the fifth, below it, and at both sides of the no-load limit
with an ABSENT terminal. -/
theorem witness_ScanComplete_ports :
    (∀ m ∈ [Mode.outage, .restoring, .releasing],
      (scanning m 0).isRunning = true ∧ (scanning m 0).bank.scanPos ≠ none ∧ (scanning m 0).qualHeld = false ∧
        ((scanning m 0).mode.runsPasses = true ∨ (scanning m 0).mode = .releasing)) ∧
    (convertAll (drawing 300)).vBank ≥ (scanning .outage 0).settings.vCut ∧
    true = decide (((scanning .outage 0).port 0).feed = .full ∧
      3 * ((scanning .outage 0).port 0).prov.df < 2 * (convertAll (drawing 300)).portPower 0) ∧
    false = decide (((scanning .outage 0).port 0).feed = .full ∧
      3 * ((scanning .outage 0).port 0).prov.df < 2 * (convertAll (drawing 5)).portPower 0) ∧
    (∀ n ∈ [3, 4], (((scanning .outage 0).modPort 0 fun r => { r with overdrawRun := n }).port 0).overdrawRun = n) ∧
    ((scanning .outage 0).port 0).feed.fed = true ∧ ((scanning .outage 0).port 31).feed.fed = false ∧
    (convertAll (drawing 4)).iPort[(0 : Port)] < 5 ∧ 5 ≤ (convertAll (drawing 5)).iPort[(0 : Port)] ∧
    10 = min ((((scanning .outage 0).modPort 0 fun r => { r with noLoadRun := 9 }).port 0).noLoadRun + 1) 10 ∧
    (((scanning .outage 0).modPort 1 fun r => { r with terminal := .absent }).port 1).terminal = .absent ∧
    ((scanning .outage 0).port 1).feed = .trickle ∧ ((scanning .outage 0).port 1).prov.enabled = true ∧
    ((scanning .outage 0).port 1).wake = none := by decide +kernel

/-- The inputs exist at a numerator of 0 and below. -/
theorem witness_Allowance :
    (let i := workedInput 3600 22000 12000 5000 240;
      (0 : Int) ≤ (i.pool : Int) * 3600 - (i.overhang : Int)) ∧
    (let i := workedInput 15000 1500 1200 8000 240;
      (i.pool : Int) * 3600 - (i.overhang : Int) < 0) := by decide +kernel

theorem witness_PassLaw :
    let i := ({ (fedIn .outage) with account := { rig.account with eBank := 100000 } }).passInput;
    (∀ p : Port, 10 ≤ i.ports[p].dt ∧ i.ports[p].dt ≤ i.ports[p].df) ∧ 1 ∈ i.baseline.1 ∧ i.wantsFull 1 = false ∧
      i.isCapped 31 = false := by decide +kernel

theorem witness_PassLaw_full :
    let i := (({ (fedIn .outage) with account := { rig.account with eBank := 100000 } }).modPort 0 fun r =>
      { r with terminal := .awake }).passInput;
    (∀ p : Port, 10 ≤ i.ports[p].dt ∧ i.ports[p].dt ≤ i.ports[p].df) ∧ 0 ∈ i.baseline.1 ∧ i.wantsFull 0 = true := by
  decide +kernel

/-- A pass in progress that read this state, with another pending. -/
def passing (s : State) : State :=
  s.modBudget fun b => { b with work := some ⟨s.passInput, 1, portBit 1⟩, pendingPass := true, nextCauses := 0x10 }

theorem witness_PassComplete :
    rig.isRunning = true ∧ rig.budget.work = none ∧
    (passing (fedIn .outage)).budget.work = some ⟨(fedIn .outage).passInput, 1, portBit 1⟩ ∧
    (passing (fedIn .outage)).mode.runsPasses = true ∧ (passing (fedIn .outage)).budget.requested = 0 ∧
    (passing (fedIn .outage)).budget.pendingPass = true ∧
    ((fedIn .outage).passInput.ports[(31 : Port)].candidate = false ∧ (portBit 1).getLsbD (1 : Port).val = true) ∧
    ((fedIn .outage).passInput.ports[(0 : Port)].candidate = true ∧ (portBit 1).getLsbD (0 : Port).val = false) ∧
    ((passing (fedIn .outage)).modLink .oLink fun c => { c with notices := 0 }).oLink.notices = 0 := by decide +kernel

/-- P1's wake is PARKED and P0's is, with a pass in progress that gives P0 FULL, and both ports carry poll marks. -/
def parking : State :=
  let s := (({ (fedIn .outage) with account := { rig.account with eBank := 100000 } }.modPort 0 fun r =>
    { r with pollMark := true, wake := some ⟨.parked, 5⟩ }).modPort 1 fun r =>
      { r with wake := some ⟨.parked, 5⟩ }).modPort 1 fun r => { r with terminal := .asleep }
  { s with wakes := { parked := [0, 1], settling := [] } }.modBudget fun b => { b with work := some ⟨s.passInput, 1, 0⟩ }

theorem witness_PassComplete_wakes :
    (parking.budget.work.map fun w => (w.input.ports[(0 : Port)].candidate, w.input.classOf 0, w.departed)) =
        some (true, .full, 0) ∧
      (parking.port 0).pollMark = true ∧ 0 ∈ parking.wakes.parked ∧ 1 ∈ parking.wakes.parked ∧
      parking.wakeOverdue 1 = false := by decide +kernel

theorem passLegal_fed : ((fedIn .outage).modBudget fun b =>
    { b with work := some ⟨(fedIn .outage).passInput, 1, 0⟩ }).PassLegal := by
  unfold State.PassLegal Provision.Legal
  refine ⟨by decide +kernel, by decide +kernel, ?_⟩
  intro w hw
  obtain rfl : (⟨(fedIn .outage).passInput, 1, 0⟩ : PassWork) = w := Option.some.inj hw
  decide +kernel

theorem witness_FedPortsFitTheAllowance :
    let s := (fedIn .outage).modBudget fun b => { b with work := some ⟨(fedIn .outage).passInput, 1, 0⟩ };
    s.isRunning = true ∧ s.PassLegal ∧ s.budget.work = some ⟨(fedIn .outage).passInput, 1, 0⟩ :=
  ⟨rfl, passLegal_fed, rfl⟩

/-- A fed state before PASS_COMPLETE, RESTART and a trip, with its charge within the P_avail of the result. -/
def charged (c : Instr) : State :=
  { ((fedIn .outage).modBudget fun b =>
      { b with work := some ⟨(fedIn .outage).passInput, 1, 0⟩, result := { b.result with pAvail := 710 } }) with
    pending := [c] }

theorem passLegal_charged (c : Instr) : (charged c).PassLegal := passLegal_fed

theorem witness_FedPortsFitTheAllowance_steps :
    (charged .passComplete).PassLegal ∧
    (∀ p : Port, ((charged .passComplete).port p).prov.dt ≤ ((charged .passComplete).port p).prov.df) ∧
    (charged .passComplete).charge (fun p => ((charged .passComplete).port p).prov.dt)
      (fun p => ((charged .passComplete).port p).prov.df) = (charged .passComplete).budget.result.pAvail ∧
    (charged .passComplete).pending.head? = some .passComplete ∧
    (charged (.restart .oLink 7 [])).pending.head? = some (.restart .oLink 7 []) ∧
    (charged (.trip 0 1501 [])).pending.head? ≠ some .passComplete ∧
    (step (charged .passComplete) = exec .passComplete { (charged .passComplete) with pending := [] }) :=
  ⟨passLegal_charged _, by decide +kernel, by decide +kernel, rfl, rfl, nofun, rfl⟩

theorem feedLegal_charged : ∀ c, (charged c).FeedLegal := by
  intro c
  unfold State.FeedLegal FeedState.unfed
  exact ⟨rfl, nofun, nofun, nofun⟩

theorem settingsLegal_default : defaultImage.Legal := by
  unfold ImageData.Legal Settings.Legal Provision.Legal LinkSettings.Legal; decide +kernel

theorem settingsLegal_fed : ∀ m, (fedIn m).SettingsLegal := by
  intro m
  refine ⟨?_, trivial, nofun⟩
  unfold ImageData.Legal Settings.Legal Provision.Legal LinkSettings.Legal
  cases m <;> decide +kernel

theorem settingsLegal_charged : ∀ c, (charged c).SettingsLegal := fun _ => settingsLegal_fed .outage

theorem witness_Trip :
    (((fedIn .outage).port 0).feed ≠ .trickle ∧ ((fedIn .outage).port 0).feed ≠ .off) ∧
    (fedIn .outage).isRunning = true ∧ (fedIn .outage).budget.requested = 0 ∧
    ((fedIn .outage).port 0).feed = .full ∧ 1500 < 1501 ∧ ¬ 1500 < 1500 ∧
    (((limitedAt 100).port 1).feed = .trickle ∧ ((limitedAt 100).port 1).trickleSince = some 0 ∧
      0 + 100 ≤ (limitedAt 100).now ∧ ¬ 0 + 100 ≤ (limitedAt 99).now) ∧
    (limitedFor 19999 = [] ++ limitedFor 19999 ∧ (limitedFor 19999).length = 100 ∧
      (∀ x ∈ limitedFor 19999, ((limitedAt 100).port 1).trickleLimit ≤ x.current ∧ x.voltage < 20000) ∧
      ¬ ∀ x ∈ limitedFor 20000, ((limitedAt 100).port 1).trickleLimit ≤ x.current ∧ x.voltage < 20000) ∧
    (fedIn .outage).mode.runsPasses = true ∧ ((fedIn .outage).port 0).faultCount < 2 ∧
    2 ≤ (((fedIn .outage).modPort 0 fun r => { r with faultCount := 2 }).port 0).faultCount ∧
    (fedIn .releasing).mode.runsPasses = false ∧ (fedIn .releasing).mode = .releasing := by decide +kernel

/-- P0 in FAULT with its retry wait. -/
def faulted : State := (fedIn .outage).modPort 0 fun r => { r with feed := .fault, retryAt := some 30000 }

theorem witness_PortTimers :
    (faulted.isRunning = true ∧ faulted.budget.requested = 0 ∧ (faulted.port 0).retryAt = some 30000 ∧
      (faulted.port 0).feed = .fault ∧ faulted.mode.runsPasses = true ∧ faulted.now ≤ 30000) ∧
    ((fedIn .outage).port 0).retryAt = none ∧
    (((fedIn .outage).port 0).settle = .running 10000 ∧ ((fedIn .outage).port 0).feed = .full ∧
      (fedIn .outage).now ≤ 10000 ∧ ((fedIn .outage).port 0).wake = none) ∧
    (let s := (fedIn .outage).modPort 0 fun r => { r with wake := some ⟨.settling, 5⟩ };
      (s.port 0).wake = some ⟨.settling, 5⟩ ∧ s.lsu.queue.length < 48) ∧ ((fedIn .outage).port 1).feed ≠ .full := by
  decide +kernel

theorem witness_WakeAndDwellExpiry :
    (rig.isRunning = true ∧ rig.budget.requested = 0 ∧ (rig.port 0).wake = none) ∧
    (let s := settled (some ⟨.signalling, 5⟩);
      (s.port 0).wake = some ⟨.signalling, 5⟩ ∧ s.entry? 0 .wake .other = none ∧ s.now ≤ 5 ∧
        s.mode.runsPasses = true) ∧
    (((settled (some ⟨.signalling, 5⟩)).modLsu fun u => { u with queue := [{ entry 0 .wake .wake with inLane := true }] }).entry?
      0 .wake .other = some { entry 0 .wake .wake with inLane := true }) ∧
    (((testing .dwell).testOf 0).map (fun c => (c.stage, c.dwellEnd)) = some (.dwell, some 120000) ∧
      (testing .dwell).now ≤ 120000 ∧ (testing .dwell).mode.runsPasses = true ∧ (testing .dwell).lsu.queue.length < 48 ∧
      (testing .dwell).tests.queue = []) ∧
    ((testing .begin_).testOf 0).map (fun c => c.stage) = some .begin_ := by decide +kernel

/-! #### Line signalling -/

theorem witness_RepliesRoundTrip : 4095 < 4096 ∧ (0 : Nat) ≠ 1 ∧ (16 ≤ 16 ∧ 19 < 20) ∧
    ((replyBits .draw 4095)[16]?).isSome = true := by decide

/-- A lane listening for P0's reply to a POLL. -/
def listening : Transaction :=
  { port := 0, kind := .poll, origin := .auto, rEff := 4, stage := .listening, since := 268, decoder := .waitStart,
    samples := [], closed := false }

/-- P0's POLL in lane 3, with two attempts. -/
def inLane3 (t : Transaction) : State :=
  ((fedIn .outage).modLsu fun u => { u with queue := [{ entry 0 .poll .auto with inLane := true }] }).setLane 3 (some t)

theorem queueLegal_inLane3 : (inLane3 listening).QueueLegal := by
  unfold State.QueueLegal
  refine ⟨by decide +kernel, List.pairwise_singleton _ _, ?_⟩
  have h : ∀ i : LaneId, i ≠ 3 → (inLane3 listening).lane i = none := by decide +kernel
  intro i j hij t u ht hu
  by_cases hi : i = 3
  · rw [h j (fun hj => hij (hi.trans hj.symm))] at hu; cases hu
  · rw [h i hi] at ht; cases ht

/-- The bursts of a lane, at a dip, at a gap between bursts, and after them. -/
theorem witness_RepliesRoundTrip_bursts :
    (3 < 4 ∧ 51 < 52 ∧ (52 ≤ 71 ∧ 71 < 72) ∧ 2 + 1 < 4) ∧
    (let x := { listening with stage := .bursting, since := 0 };
      (inLane3 x).isRunning = true ∧ (inLane3 x).lane 3 = some x ∧ x.port = 0 ∧ x.since ≤ (inLane3 x).now ∧
        48000 = (if ((inLane3 x).port 0).feed = .testing then 15000 else if ((inLane3 x).port 0).feed.fed then 48000 else 0) ∧
        (burstsWave x.kind x.rEff)[(inLane3 x).now - x.since]? = some true ∧ (inLane3 x).pairLevel 0 48000 = 24000) ∧
    ((inLane3 listening).lane 3 = some listening ∧ (inLane3 listening).pairLevel 0 48000 = 48000) := by decide +kernel

/-- Two POLLs wait, P1's the older; P31's port cannot be signalled. -/
def waiting : State :=
  (fedIn .outage).modLsu fun u => { u with queue := [entry 31 .poll .oLink, entry 1 .poll .oLink, entry 0 .poll .oLink] }

theorem witness_ArbiterGrantsTheBest :
    waiting.lane 3 = none ∧ waiting.lsu.queue = [entry 31 .poll .oLink] ++ entry 1 .poll .oLink :: [entry 0 .poll .oLink] ∧
      waiting.eligible (entry 1 .poll .oLink) = true ∧
      (∀ x ∈ [entry 31 .poll .oLink], waiting.eligible x = true → (entry 1 .poll .oLink).priority < x.priority) ∧
      (∀ x ∈ [entry 0 .poll .oLink], waiting.eligible x = true → (entry 1 .poll .oLink).priority ≤ x.priority) ∧
      (∀ e ∈ (fedIn .outage).lsu.queue, (fedIn .outage).eligible e = false) ∧ waiting.lsu.queue.length ≤ 48 := by
  decide +kernel

theorem queueLegal_waiting : waiting.QueueLegal := by
  unfold State.QueueLegal Entry.differs
  refine ⟨by decide +kernel, by decide +kernel, ?_⟩
  have hl : ∀ i : LaneId, waiting.lane i = none := by decide +kernel
  intro i j _ t u h
  rw [hl i] at h; cases h

theorem witness_QueueTimers :
    waiting.isRunning = true ∧ waiting.entry? 1 .poll .other = some (entry 1 .poll .oLink) ∧
      (entry 1 .poll .oLink).inLane = false ∧ waiting.now ≤ (entry 1 .poll .oLink).enqueued + 30000 ∧
      (entry 1 .poll .oLink).enqueued + 30000 ≤ 18446744073709551615 ∧ waiting.budget.requested = 0 ∧
      waiting.tests.queue = [] ∧ (entry 1 .poll .oLink).origin = .oLink ∧ (entry 0 .poll .auto).origin = .auto ∧
      (entry 0 .release .release).origin = .release ∧ (entry 0 .wake .wake).origin = .wake ∧
      rig.entry? 0 .poll .other = none ∧ (fedIn .releasing).mode = .releasing ∧
      (inLane3 { listening with stage := .bursting }).lane 3 = some { listening with stage := .bursting } := by
  decide +kernel

theorem witness_TransactionsEnd :
    ((inLane3 listening).lane 3 = some listening ∧ (inLane3 listening).orphaned listening = false ∧
      ((inLane3 listening).setLane 3 (some { listening with kind := .wake })).orphaned { listening with kind := .wake } = true) ∧
    (inLane3 listening).QueueLegal ∧
    (ReplyKind.status = expectedReply listening.kind ∧ ReplyKind.draw ≠ expectedReply listening.kind ∧
      (inLane3 listening).entry? 0 .poll .other = some { entry 0 .poll .auto with inLane := true } ∧
      1 < (entry 0 .poll .auto).attempts ∧ ((inLane3 listening).port 0).lineErr + 8 < 160 ∧
      (entry 0 .poll .auto).overdue (inLane3 listening).now = false ∧ listening.origin ≠ .wake) ∧
    160 ≤ (((inLane3 listening).modPort 0 fun r => { r with lineErr := 152 }).port 0).lineErr + 8 :=
  ⟨by decide +kernel, queueLegal_inLane3, by decide +kernel, by decide +kernel⟩

/-- P0's WAKE in lane 3, with these attempts, and its wake SIGNALLING. -/
def wakeInLane (attempts : Nat) : State :=
  (((fedIn .outage).modPort 0 fun r => { r with wake := some ⟨.signalling, 120000⟩ }).modLsu fun u =>
    { u with queue := [{ entry 0 .wake .wake with attempts := attempts, inLane := true }] }).setLane 3
      (some { listening with kind := .wake, origin := .wake })

theorem witness_TransactionsEnd_wakes :
    (∀ a ∈ [1, 2],
      (wakeInLane a).lane 3 = some { listening with kind := .wake, origin := .wake } ∧
        (wakeInLane a).orphaned { listening with kind := .wake, origin := .wake } = false ∧
        (wakeInLane a).mode.runsPasses = true ∧
        (wakeInLane a).entry? 0 .wake .other = some { entry 0 .wake .wake with attempts := a, inLane := true } ∧
        ((wakeInLane a).port 0).lineErr + 8 < 160 ∧ (wakeInLane a).wakeOverdue 0 = false ∧
        ReplyKind.status = expectedReply .wake) ∧
    (let s := (inLane3 listening).modPort 0 fun r => { r with wake := some ⟨.parked, 5⟩ };
      (s.port 0).wake.isSome = true ∧ listening.kind ≠ .wake ∧ listening.origin ≠ .test ∧ s.mode.runsPasses = true) := by
  decide +kernel

/-- An entry on its last attempt, a reply of each kind that the record takes, and a port that leaves FULL. -/
theorem witness_TransactionsEnd_ends :
    (let s := (inLane3 listening).modLsu fun u => { u with queue := [{ entry 0 .poll .auto with attempts := 1, inLane := true }] };
      s.entry? 0 .poll .other = some { entry 0 .poll .auto with attempts := 1, inLane := true } ∧ s.orphaned listening = false) ∧
    ((inLane3 listening).port 0).prov.dt ≤ 2500 ∧ (listening.origin = .oLink ∨ listening.origin = .auto) ∧
    ((inLane3 listening).port 0).feed ≠ .testing ∧ FeedState.off.signallable = false ∧
    ((inLane3 listening).port 0).feed ≠ .off ∧ (inLane3 listening).wakeOverdue 0 = false ∧
    (inLane3 { listening with kind := .drawQuery }).entry? 0 .drawQuery .other = none := by decide +kernel

/-- P0's RELEASE in lane 3, with these attempts; P1 fed beside it, or not. -/
def releasing (attempts : Nat) (other : Bool) : State :=
  ((((fedIn .releasing).modPort 0 fun r => { r with release := true }).modPort 1 fun r =>
    if other then r else { r with feed := .off, trickleSince := none }).modLsu fun u =>
      { u with queue := [{ entry 0 .release .release with attempts := attempts, inLane := true }] }).setLane 3
        (some { listening with kind := .release, origin := .release })

/-- A release that ends as acknowledged, on its last attempt or with a mute, the last release or not the last, and one that
stays pending; the entry in its place. -/
theorem witness_TransactionsEnd_releases :
    (∀ a ∈ [1, 2], ∀ other ∈ [true, false],
      let s := releasing a other;
      let x := { listening with kind := .release, origin := .release };
      let e := { entry 0 .release .release with attempts := a, inLane := true };
      s.lane 3 = some x ∧ s.orphaned x = false ∧ s.mode = .releasing ∧ (s.port 0).release = true ∧
        (s.port 0).feed.fed = true ∧ s.entry? 0 .release .other = some e ∧ s.lsu.queue = [] ++ e :: [] ∧
        e.overdue s.now = false ∧ (s.port 0).lineErr + 8 < 160 ∧
        ((∀ q, q ≠ 0 → (s.port q).feed.fed = false) ↔ other = false)) ∧
    160 ≤ (((releasing 2 true).modPort 0 fun r => { r with lineErr := 152 }).port 0).lineErr + 8 ∧
    (((releasing 2 true).setFeed 0 .off).port 0).feed.fed = false ∧ ReplyKind.ack = expectedReply .release := by
  decide +kernel

/-- P0 fed, P0 muted by this failure, and P0 unfed. -/
theorem witness_TransactionsEnd_feeds :
    (releasing 1 false).FeedLegal ∧ (releasing 2 true).FeedLegal ∧
      ((releasing 2 true).modPort 0 fun r => { r with lineErr := 152 }).FeedLegal ∧
      ((releasing 2 true).setFeed 0 .off).FeedLegal := by
  refine ⟨?_, ?_, ?_, ?_⟩ <;> (unfold State.FeedLegal FeedState.unfed; decide +kernel)

theorem queueLegal_releasing : (releasing 1 false).QueueLegal := by
  refine ⟨by decide +kernel, List.pairwise_singleton _ _, ?_⟩
  have h : ∀ i : LaneId, i ≠ 3 → (releasing 1 false).lane i = none := by decide +kernel
  intro i j hij t u ht hu
  by_cases hi : i = 3
  · rw [h j (fun hj => hij (hi.trans hj.symm))] at hu; cases hu
  · rw [h i hi] at ht; cases ht

theorem witness_RepliesUpdateThePort :
    (rig.port 0).prov.dt ≤ 2500 ∧ (rig.port 0).prov.df ≠ max (rig.port 0).prov.dt (max 10 (min 2500 4095)) ∧
      (rig.port 0).prov.df = max (rig.port 0).prov.dt (max 10 (min 2500 650)) ∧ (inMode .outage).mode.runsPasses = true ∧
      (1 : Port) ≠ 0 ∧ (3 : Nat) ≤ 3 := by decide +kernel

/-- The four ends of a listening lane: a good reply, a reply that fails its check, a symbol failure, a flag. -/
theorem witness_ListeningEnds :
    ((inLane3 listening).isRunning = true ∧ (inLane3 listening).lane 3 = some listening ∧ listening.stage = .listening ∧
      listening.closed = false) ∧
    (let all := listening.samples ++ replySamples (replyBits .status 1);
      all.length < 2000 ∧ decodeSamples all = .reply (replyBits .status 1) ∧
        judgeReply (replyBits .status 1) = some ⟨.status, 1⟩) ∧
    (let bits := List.replicate 20 false;
      decodeSamples (replySamples bits) = .reply bits ∧ judgeReply bits = none) ∧
    decodeSamples (List.replicate 20 true ++ [false, false]) = .symbol ∧
    decodeSamples (List.replicate 160 true ++ [false, false]) = .flag ∧
    (∀ b ∈ listening.samples ++ List.replicate 4 false, b = false) := by decide +kernel

theorem decode_glitch : decodeSamples (List.replicate 1999 false ++ [true, false]) = .open_ .start false := by
  rw [decodeSamples_low 1997]; decide +kernel

/-- A window that closes with the level low. -/
theorem witness_ListeningEnds_low :
    noReply (List.replicate 2000 false) = true ∧ (List.replicate 2000 false).length = 2000 := by
  have h : decodeSamples (List.replicate 2000 false ++ []) = .open_ .start false := by
    rw [decodeSamples_low 1998]; decide +kernel
  rw [List.append_nil] at h
  have hl : (List.replicate 2000 false).length = windowSamples := List.length_replicate
  rw [noReply, hl, List.take_of_length_le (Nat.le_of_eq hl), h]
  exact ⟨rfl, rfl⟩

/-- A window that closes on one high sample, which the next sample makes a glitch. -/
theorem witness_ListeningEnds_glitch :
    noReply (List.replicate 1999 false ++ [true, false]) = true ∧
      decodeSamples (List.replicate 1999 false ++ [true]) = .open_ .start true := by
  have hl : (List.replicate 1999 false ++ [true, false]).length = windowSamples + 1 := by
    rw [List.length_append, List.length_replicate]; rfl
  refine ⟨?_, by rw [decodeSamples_low 1997]; decide +kernel⟩
  rw [noReply, hl, List.take_of_length_le (i := windowSamples + 1) (Nat.le_of_eq hl), decode_glitch]
  exact Bool.or_true _

/-- A reply that began before the window's close ends after it. -/
theorem witness_ListeningEnds_reply :
    let all := List.replicate 1990 false ++ replySamples (replyBits .status 1);
    noReply all = false ∧ decodeSamples all = .reply (replyBits .status 1) := by
  refine ⟨?_, by rw [decodeSamples_low 1988]; decide +kernel⟩
  have h : ∀ k, 1 ≤ k → k ≤ 2 → (decodeSamples
      ((List.replicate 1990 false ++ replySamples (replyBits .status 1)).take (1999 + k))).waitingLow = false := by
    intro k h1 h2
    rw [List.take_append, List.length_replicate, List.take_of_length_le (by rw [List.length_replicate]; omega),
      decodeSamples_low 1988]
    obtain rfl | rfl : k = 1 ∨ k = 2 := by omega
    all_goals decide +kernel
  rw [noReply, show windowSamples = 1999 + 1 from rfl, h 1 (by omega) (by omega), h 2 (by omega) (by omega),
    Bool.and_false, Bool.and_false]
  rfl

/-- A lane that follows past its window what was a single high sample at the close. -/
theorem witness_ListeningEnds_closed :
    let x := { listening with closed := true, samples := List.replicate 1999 false ++ [true] };
    (inLane3 x).lane 3 = some x ∧ x.closed = true ∧
      decodeSamples ((x.samples ++ [false]).take 2001) = .open_ .start false := by
  refine ⟨rfl, rfl, ?_⟩
  rw [List.take_of_length_le (Nat.le_of_eq (by simp only [List.length_append, List.length_replicate]; rfl)),
    List.append_assoc]
  exact decode_glitch

/-- P0's detector armed, with these samples of the run under way. -/
def armed (taken : Nat) (run : List Bool) : State := (fedIn .outage).setFlag 0 (.armed 0 taken run)

/-- A pair's samples at these levels over a slow average of 30 mA. -/
def pair (levels : List Bool) : List PairSample := levels.map fun b => { current := if b then 40 else 39, average := 30 }

theorem witness_TerminalFlag_detector :
    rig.flag 0 = .disarmed ∧ (armed 5 [false, false]).flag 0 = .armed 0 5 (List.replicate 2 false) ∧
    (∀ n ∈ [159, 160, 320, 321], 2 ≤ n ∧
      (pair (List.replicate 0 false ++ List.replicate n true ++ [false, false])).map
          (fun y => decide (y.average + 10 ≤ y.current)) =
        List.replicate 0 false ++ List.replicate n true ++ [false, false]) ∧
    ((armed 0 []).flag 0 = .armed 0 0 [] ∧
      (pair (List.replicate 200 true ++ [false, false])).map (fun y => decide (y.average + 10 ≤ y.current)) =
        List.replicate 200 true ++ [false, false]) := by decide +kernel

theorem witness_TerminalFlag :
    (fedIn .outage).isRunning = true ∧ 2 ≤ 2 ∧ (fedIn .outage).flagArmed 0 = true ∧ rig.flagArmed 0 = false ∧
      ¬ (160 ≤ 159 ∧ 159 ≤ 320) ∧ ¬ (160 ≤ 321 ∧ 321 ≤ 320) ∧ (160 ≤ 320 ∧ 320 ≤ 320) ∧
      (fedIn .outage).lsu.queue.length < 48 ∧
      ((testing .dwell).flagArmed 0 = true ∧ ((testing .dwell).port 0).feed = .testing ∧
        ((testing .dwell).testOf 0).isSome = true ∧ (testing .dwell).tests.queue = []) := by decide +kernel

/-- Every detector that R93 arms is armed, that of P0 after these samples. -/
def listened (s : State) : State := s.armDetectors.setFlag 0 (.armed 0 5 [false, false])

theorem witness_TerminalFlag_armed :
    (∀ s ∈ [fedIn .outage, testing .dwell], (listened s).DetectorsLegal ∧ (listened s).isRunning = true ∧
      (listened s).flag 0 = .armed 0 5 (List.replicate 2 false) ∧ (listened s).lsu.queue.length < 48) ∧
    ((listened (testing .dwell)).port 0).feed = .testing ∧ ((listened (testing .dwell)).testOf 0).isSome = true ∧
      (listened (testing .dwell)).tests.queue = [] ∧ ((listened (fedIn .outage)).port 0).feed ≠ .testing := by
  unfold State.DetectorsLegal
  decide +kernel

/-! #### Resets and invariants -/

theorem witness_Resets :
    writing.store.write.isSome = true ∧ Image.incomplete = (if writing.store.write.isSome then .incomplete else writing.store.image) ∧
      writing.isRunning = true ∧ (after writing .hardReset).phase = .resetHeld := by decide +kernel

/-- The image written whole, and one whose CRC does not match. -/
theorem witness_Resets_image :
    defaultImage = (match Image.written defaultImage (Config.imageCrc defaultImage.values) with
      | .written d crc => if crc = Config.imageCrc d.values then d else defaultImage
      | .blank | .incomplete => defaultImage) ∧
    (∀ d crc, crc ≠ Config.imageCrc d.values → defaultImage = (match Image.written d crc with
      | .written d crc => if crc = Config.imageCrc d.values then d else defaultImage
      | .blank | .incomplete => defaultImage)) := by
  refine ⟨by simp, fun d crc h => ?_⟩
  simp [h]

theorem witness_SettingsAndAccountStayInRange :
    (fedIn .outage).SettingsLegal ∧ (fedIn .outage).AccountLegal :=
  ⟨settingsLegal_fed .outage, by unfold State.AccountLegal; decide +kernel⟩

theorem witness_RingStaysConsecutive : (ringed 64 .hold).RingLegal := ringLegal_ringed_full

theorem feedLegal_rig : rig.FeedLegal := by unfold State.FeedLegal FeedState.unfed; decide +kernel

theorem detectorsLegal_rig : rig.DetectorsLegal := by intro _; decide +kernel

/-- Lane 3 follows a reply past its window, with as many samples as its time holds. -/
def following : State :=
  (inLane3 { listening with since := 0, closed := true, samples := List.replicate 2000 false }).modTime fun t =>
    { t with tick := 500 }

theorem lanesLegal_following : following.LanesLegal := by
  have h : ∀ i : LaneId, i ≠ 3 → following.lane i = none := by decide +kernel
  intro i t ht _
  by_cases hi : i = 3
  · subst hi
    obtain rfl : { listening with since := 0, closed := true, samples := List.replicate 2000 false } = t :=
      Option.some.inj ht
    exact .inl (Nat.le_of_eq List.length_replicate)
  · rw [h i hi] at ht; cases ht

theorem witness_QueueStaysDistinct :
    waiting.QueueLegal ∧ following.LanesLegal ∧ (fedIn .releasing).ReleasesLegal ∧ rig.FeedLegal ∧ rig.ReleasesLegal ∧ rig.DetectorsLegal :=
  ⟨queueLegal_waiting, lanesLegal_following, releasesLegal_fed .releasing, feedLegal_rig,
    fun _ => ⟨nofun, nofun, fun i x h => by
      rw [lane_rig i] at h; cases h⟩, detectorsLegal_rig⟩

theorem witness_FeedFollowsTheModeAndThePass :
    (fedIn .outage).FeedLegal ∧ (scanning .releasing 0).MarkLegal ∧ (fedIn .outage).SettingsLegal ∧
      ((fedIn .outage).modBudget fun b => { b with work := some ⟨(fedIn .outage).passInput, 1, 0⟩ }).PassLegal :=
  ⟨by unfold State.FeedLegal FeedState.unfed; decide +kernel, fun _ _ _ => rfl, settingsLegal_fed .outage, passLegal_fed⟩

/-- A second tick changes the account mark, and a scan the cutoff run count. -/
theorem witness_FeedFollowsTheModeAndThePass_bank :
    exec .secondTick (fedIn .outage) = .next (after (fedIn .outage) .secondTick) ∧
      (after (fedIn .outage) .secondTick).bank.accountMark ≠ (fedIn .outage).bank.accountMark ∧
      (after (scanning .outage 0) (.scanComplete (readings 41984))).bank.cutoffRun ≠ (scanning .outage 0).bank.cutoffRun :=
  ⟨rfl, by decide +kernel⟩

theorem witness_PortRecordsStayInRange : faulted.PortsLegal := by
  unfold State.PortsLegal PortRecord.Legal
  have h : ∀ p, (faulted.port p).lineErr ≤ 160 ∧ (faulted.port p).faultCount ≤ 3 ∧ (faulted.port p).overdrawRun ≤ 5 ∧
      (faulted.port p).noLoadRun ≤ 10 ∧ (faulted.port p).lastMv = none ∧
      ((faulted.port p).retryAt.isSome = true ↔ (faulted.port p).feed = .fault) ∧
      ((faulted.port p).trickleSince.isSome = true ↔ (faulted.port p).feed = .trickle) := by decide +kernel
  intro p
  obtain ⟨h₁, h₂, h₃, h₄, h₅, h₆, h₇⟩ := h p
  exact ⟨h₁, h₂, h₃, h₄, (by simp [h₅]), h₆, h₇⟩

/-- SET-OCV, SLOT-CONFIGURE, a settings write, an outage and a power-on reset change what the last statement names. -/
theorem witness_WhatOnlyNamedCommandsChange :
    exec .settingsWriteEnd writing = .next (after writing .settingsWriteEnd) ∧
      ((after writing .settingsWriteEnd).store.image ≠ writing.store.image ∧
      (after rig (.powerOnReset true 9)).straps ≠ rig.straps ∧
      (after rig (.setOcvPart0 .bLink 7 (0 :: partZero))).staging ≠ rig.staging ∧
      (after (dueOutage true) .outageTimerExpiry).mains.outageNumber ≠ (dueOutage true).mains.outageNumber ∧
      ((after rig (.slotConfigure .oLink 7 [11, 0, 0, 0, 0, 1, 0])).slot 11).owner ≠ (rig.slot 11).owner) :=
  ⟨rfl, by decide +kernel⟩

/-- The step of an empty queue that qualifies an outage. -/
theorem witness_WhatOnlyNamedCommandsChange_tick :
    (dueOutage true).pending = [] ∧ step (dueOutage true) = .next (dueOutage true).tick ∧ (dueOutage true).mains.qual = .outage ∧
      (dueOutage true).tick.mains.outageNumber ≠ (dueOutage true).mains.outageNumber := ⟨rfl, rfl, rfl, by decide +kernel⟩

end Sys2Proof.Tests
end

/-! SUPPORT. The state of charge (R29) and the debit of a scan (R31 to R33): what the Bank Monitor's arithmetic computes,
and the two statements about it. -/

namespace Sys2Proof.Machine

open Sys2Proof

/-! ### The state of charge -/

/-- R27, point by point. -/
theorem ocvValid_iff (t : Vector OcvPoint 9) :
    ocvValid t = true ↔
      (∀ i : Fin 8, t[i.val].v < t[i.val + 1].v ∧ t[i.val].s ≤ t[i.val + 1].s) ∧ ∀ i : Fin 9, t[i].s ≤ 1000 := by
  simp [ocvValid, List.all_eq_true]

theorem soc_of_lt_first {t : Vector OcvPoint 9} {v : Nat} (h : v < t[0].v) : soc t v = t[0].s := if_pos h

/-- The search passes over every point below one that the voltage has reached. -/
theorem soc_eq_socFrom_drop {t : Vector OcvPoint 9} {v : Nat} (valid : ocvValid t = true) (i : Fin 9)
    (reached : t[i].v ≤ v) : soc t v = socFrom v (t.toList.drop i) := by
  obtain ⟨rises, -⟩ := (ocvValid_iff t).1 valid
  induction i using Fin.induction with
  | zero => exact if_neg (Nat.not_lt.2 reached)
  | succ i ih =>
    have step := (rises i).1
    rw [ih (step.le.trans reached), Fin.val_castSucc, List.drop_eq_getElem_cons (by simp; omega), Fin.val_succ,
      List.drop_eq_getElem_cons (i := i.val + 1) (by simp; omega)]
    exact if_neg (Nat.not_lt.2 reached)

theorem soc_of_last_le {t : Vector OcvPoint 9} {v : Nat} (valid : ocvValid t = true) (h : t[8].v ≤ v) :
    soc t v = t[8].s := by
  rw [soc_eq_socFrom_drop valid 8 h, List.drop_eq_getElem_cons (by simp), List.drop_eq_nil_of_le (by simp)]
  rfl

theorem soc_eq_interpolate {t : Vector OcvPoint 9} {v : Nat} (valid : ocvValid t = true) (i : Fin 8)
    (lower : t[i.val].v ≤ v) (upper : v < t[i.val + 1].v) : soc t v = interpolate t[i.val] t[i.val + 1] v := by
  rw [soc_eq_socFrom_drop valid i.castSucc lower, Fin.val_castSucc, List.drop_eq_getElem_cons (by simp; omega),
    List.drop_eq_getElem_cons (i := i.val + 1) (by simp; omega)]
  exact if_pos upper

/-- A voltage within the table lies in one of its intervals. -/
theorem exists_interval {t : Vector OcvPoint 9} {v : Nat} (lower : t[0].v ≤ v) (upper : v < t[8].v) :
    ∃ i : Fin 8, t[i.val].v ≤ v ∧ v < t[i.val + 1].v := by
  by_contra! rises
  have reached (i : Fin 9) : t[i].v ≤ v := by
    induction i using Fin.induction with
    | zero => exact lower
    | succ i ih => exact rises i ih
  exact Nat.not_lt.2 (reached 8) upper

theorem interpolate_le {a b : OcvPoint} {v : Nat} (rises : a.s ≤ b.s) (upper : v ≤ b.v) : interpolate a b v ≤ b.s := by
  have part : (v - a.v) * (b.s - a.s) / (b.v - a.v) ≤ b.s - a.s :=
    Nat.div_le_of_le_mul (Nat.mul_le_mul_right _ (Nat.sub_le_sub_right upper _))
  unfold interpolate
  omega

theorem soc_le {t : Vector OcvPoint 9} (v : Nat) (valid : ocvValid t = true) : soc t v ≤ 1000 := by
  obtain ⟨rises, small⟩ := (ocvValid_iff t).1 valid
  rcases Nat.lt_or_ge v t[0].v with below | lower
  · exact soc_of_lt_first below ▸ small 0
  rcases Nat.lt_or_ge v t[8].v with upper | above
  · obtain ⟨i, hi, hv⟩ := exists_interval lower upper
    rw [soc_eq_interpolate valid i hi hv]
    exact (interpolate_le (rises i).2 hv.le).trans (small i.succ)
  · exact soc_of_last_le valid above ▸ small 8

/-! ### The debit -/

/-- The number of whole account units that the manual's loop takes off. -/
def unitsTaken (residue quantity : Nat) : Nat := min (residue / 3600) quantity

theorem drain_eq (residue quantity : Nat) :
    drain residue quantity =
      (residue - unitsTaken residue quantity * 3600, quantity - unitsTaken residue quantity) := by
  induction quantity generalizing residue with
  | zero => simp [drain, unitsTaken]
  | succ q ih =>
    by_cases unit : 3600 ≤ residue
    · have more : unitsTaken residue (q + 1) = unitsTaken (residue - 3600) q + 1 := by
        unfold unitsTaken; omega
      rw [drain, if_pos unit, ih, more]
      ext <;> dsimp only <;> omega
    · have kept : unitsTaken residue (q + 1) = 0 := by unfold unitsTaken; omega
      simp [drain, unit, kept]

/-- A debit's loop in closed form, with the residue dropped when the quantity is used up (R31, R33). -/
theorem settled_drain_eq (residue quantity : Nat) :
    settled (drain residue quantity) =
      (if quantity - unitsTaken residue quantity = 0 then 0 else residue - unitsTaken residue quantity * 3600,
        quantity - unitsTaken residue quantity) := by
  rw [drain_eq, settled]
  by_cases empty : quantity - unitsTaken residue quantity = 0 <;> simp only [empty, if_true, if_false]

/-- R31's loop is the model's division. -/
theorem Account.debitBank_eq (a : Account) (pBank : Nat) :
    a.debitBank pBank =
      { a with
        resBank := (settled (drain (a.resBank + pBank) a.eBank)).1
        eBank := (settled (drain (a.resBank + pBank) a.eBank)).2 } := by
  rw [settled_drain_eq]; rfl

/-- R33's loop is the model's division. -/
theorem Account.debitReserve_eq (a : Account) (bNow : Nat) :
    a.debitReserve bNow =
      { a with
        resBldg := (settled (drain (a.resBldg + bNow) a.rLeft)).1
        rLeft := min (settled (drain (a.resBldg + bNow) a.rLeft)).2 a.eBank } := by
  rw [settled_drain_eq]; rfl

/-- The sample of R32 is what its subtraction gives, and 0 where that is negative. -/
theorem buildingDraw_eq_max (m : MeasSet) :
    (buildingDraw m : Int) = max 0 ((m.bankPower : Int) - (m.sumPower : Int) - 180) := by
  unfold buildingDraw Config.pOwn
  omega

section average

variable (a : Account) (bNow : Nat)

@[simp] theorem Account.average_eBank : (a.average bNow).eBank = a.eBank := rfl
@[simp] theorem Account.average_rLeft : (a.average bNow).rLeft = a.rLeft := rfl
@[simp] theorem Account.average_resBank : (a.average bNow).resBank = a.resBank := rfl
@[simp] theorem Account.average_resBldg : (a.average bNow).resBldg = a.resBldg := rfl
@[simp] theorem Account.average_bAvgStarted : (a.average bNow).bAvgStarted = true := rfl
@[simp] theorem Account.average_breach : (a.average bNow).breach = a.breach := rfl

end average

/-- The average moves by an eighth of its distance to the sample, the eighth rounded toward zero (R32). -/
theorem Account.average_bAvg (a : Account) (bNow : Nat) :
    ((a.average bNow).bAvg : Int) =
      if a.bAvgStarted then
        (if a.bAvg ≤ bNow then (a.bAvg : Int) + (((bNow - a.bAvg) / 8 : Nat) : Int)
          else (a.bAvg : Int) - (((a.bAvg - bNow) / 8 : Nat) : Int))
      else bNow := by
  cases started : a.bAvgStarted with
  | false => simp [Account.average, started]
  | true =>
    by_cases rising : a.bAvg ≤ bNow
    · have up : ((bNow : Int) - a.bAvg).tdiv 8 = ((bNow - a.bAvg) / 8 : Nat) := by
        rw [← Int.ofNat_sub rising]; rfl
      simp only [Account.average, started, up, rising, if_true]
      omega
    · have down : ((bNow : Int) - a.bAvg).tdiv 8 = -((a.bAvg - bNow) / 8 : Nat) := by
        rw [← Int.neg_sub, ← Int.ofNat_sub (Nat.le_of_not_le rising), Int.neg_tdiv]; rfl
      simp only [Account.average, started, down, rising, if_true, if_false]
      omega

/-- Settles O37: the search drops the points below the voltage, and what is left begins with its interval. -/
theorem stateOfCharge : Obligations.StateOfCharge := fun _ v valid =>
  ⟨soc_of_lt_first, soc_of_last_le valid, soc_eq_interpolate valid, soc_le v valid⟩

/-- Settles O35: each loop of the manual is one of the model's divisions (`Account.debitBank_eq`, `Account.debitReserve_eq`). -/
theorem debitFollowsTheLoops : Obligations.DebitFollowsTheLoops := by
  rintro a m bNow _ _ hNow rfl rfl
  have draw : buildingDraw m = bNow := Int.ofNat_inj.1 ((buildingDraw_eq_max m).trans hNow.symm)
  simp [Account.debit, draw, Account.debitBank_eq, Account.debitReserve_eq, Account.average_bAvg]

end Sys2Proof.Machine

/-! SUPPORT. The feed budget (chapter 3): the allowance of a pass, its admission order, what its two walks take and the
classes they give, and the two statements about them. -/

namespace Sys2Proof.Machine

open Sys2Proof

/-! ### The allowance (R43 to R45) -/

namespace PassInput

variable (i : PassInput)

/-- The floor horizon keeps the divisor of R45 away from 0. -/
theorem remS_pos : 0 < i.remS := Nat.lt_of_lt_of_le (by decide) (Nat.le_max_right _ _)

theorem remS_eq_max : (i.remS : Int) = max ((i.tHold : Int) * 60 - (i.clock : Int)) 900 := by
  unfold remS Config.floorHorizon
  omega

theorem pool_eq_max : (i.pool : Int) = max 0 ((i.eBank : Int) - (i.rLeft : Int)) := by
  unfold pool
  omega

theorem overhang_eq_max :
    (i.overhang : Int) = max 0 ((i.bAvg : Int) * (i.remS : Int) - (i.rLeft : Int) * 3600) := by
  unfold overhang Config.auSize
  rw [← Nat.cast_mul]
  omega

theorem raw_eq :
    i.raw = (if 0 ≤ (i.pool : Int) * 3600 - i.overhang then ((i.pool : Int) * 3600 - i.overhang) / i.remS - 180
      else -180) := by
  simp [raw]

theorem pAvail_eq_max : (i.pAvail : Int) = max 0 (min i.raw (min (i.pCeil : Int) 9600)) := by
  unfold pAvail Config.pHw
  omega

end PassInput

/-- Settles O39: the floor of R45 is the division by a positive horizon (`PassInput.remS_pos`). -/
theorem allowance : Obligations.Allowance := by
  rintro i n rfl
  have horizon : (0 : Int) < i.remS := by exact_mod_cast i.remS_pos
  refine ⟨i.remS_eq_max, i.pool_eq_max, i.overhang_eq_max, fun covered => ?_, fun short => ?_, i.pAvail_eq_max⟩
  · rw [i.raw_eq, if_pos covered, Int.sub_add_cancel, show ∀ x : Int, x - 180 + 181 = x + 1 by omega]
    exact ⟨Int.ediv_mul_le _ horizon.ne', Int.lt_ediv_add_one_mul_self _ horizon⟩
  · rw [i.raw_eq, if_neg (Int.not_le.2 short)]

/-! ### The admission order (R46, R47, R49) -/

theorem Battery.rank_lt (b : Battery) : b.rank < 4 := by cases b <;> decide

/-- Two-digit numbers compare by the first digit, and by the second where the first are equal. -/
theorem digits_lt_iff {n x y x' y' : Nat} (small : y < n) (small' : y' < n) :
    x * n + y < x' * n + y' ↔ x < x' ∨ x = x' ∧ y < y' := by
  rcases Nat.lt_trichotomy x x' with less | rfl | more
  · have := Nat.mul_le_mul_right n less
    grind
  · simp
  · have := Nat.mul_le_mul_right n more
    grind

theorem mem_allPorts (p : Port) : p ∈ allPorts := List.mem_finRange p

theorem nodup_allPorts : allPorts.Nodup := List.nodup_finRange 32

namespace PassInput

variable (i : PassInput)

/-- The key's digits, each with what the keys after it come to. -/
theorem key_eq (p : Port) :
    i.key p = (if i.ports[p].terminal = .call then 0 else 1) * 512 +
      (i.ports[p].grade.val * 128 + (i.ports[p].battery.rank * 32 + p.val)) := by
  unfold key
  omega

/-- The key as one number compares as the four keys of R49 do, each deciding where those before it are equal. -/
theorem key_lt_iff (p q : Port) :
    i.key p < i.key q ↔
      (i.ports[p].terminal = .call ∧ i.ports[q].terminal ≠ .call) ∨
        ((i.ports[p].terminal = .call ↔ i.ports[q].terminal = .call) ∧
          (i.ports[p].grade < i.ports[q].grade ∨
            (i.ports[p].grade = i.ports[q].grade ∧
              (i.ports[p].battery.rank < i.ports[q].battery.rank ∨
                (i.ports[p].battery.rank = i.ports[q].battery.rank ∧ p < q))))) := by
  rw [key_eq, key_eq]
  generalize i.ports[p] = a, i.ports[q] = b
  have rankA := a.battery.rank_lt
  have rankB := b.battery.rank_lt
  rw [digits_lt_iff (by omega) (by omega), digits_lt_iff (by omega) (by omega), digits_lt_iff p.isLt q.isLt,
    Fin.val_inj, Fin.val_fin_lt, Fin.val_fin_lt]
  by_cases callA : a.terminal = .call <;> by_cases callB : b.terminal = .call <;> simp [callA, callB]

theorem key_mod (p : Port) : i.key p % 32 = p.val := by
  unfold key
  omega

theorem key_injective : Function.Injective i.key := fun p q same =>
  Fin.ext (by rw [← i.key_mod p, same, i.key_mod])

theorem isCapped_iff {p : Port} :
    i.isCapped p = true ↔
      i.ports[p].candidate = true ∧ i.gCap < i.ports[p].grade ∧ i.ports[p].terminal ≠ .call := by
  simp only [isCapped, Bool.and_eq_true, decide_eq_true_eq, and_assoc]

theorem admitted_iff {p : Port} :
    i.admitted p = true ↔
      i.ports[p].candidate = true ∧ (i.ports[p].grade ≤ i.gCap ∨ i.ports[p].terminal = .call) := by
  rw [admitted, Bool.and_eq_true, Bool.not_eq_true', ← Bool.not_eq_true, isCapped_iff, ← not_lt]
  tauto

theorem mem_order_iff_admitted {p : Port} : p ∈ i.order ↔ i.admitted p = true := by
  simp only [order, List.mem_insertionSort, List.mem_filter, mem_allPorts, true_and]

theorem mem_order {p : Port} :
    p ∈ i.order ↔
      i.ports[p].candidate = true ∧ (i.ports[p].grade ≤ i.gCap ∨ i.ports[p].terminal = .call) :=
  i.mem_order_iff_admitted.trans i.admitted_iff

theorem nodup_order : i.order.Nodup :=
  (List.perm_insertionSort _ _).nodup_iff.2 (nodup_allPorts.filter _)

/-- The admission order rises strictly in the key: no two ports have the same one. -/
theorem order_sorted : i.order.Pairwise fun p q => i.key p < i.key q := by
  have total : Std.Total fun p q : Port => i.key p ≤ i.key q := ⟨fun _ _ => Nat.le_total _ _⟩
  have trans : IsTrans Port fun p q => i.key p ≤ i.key q := ⟨fun _ _ _ => Nat.le_trans⟩
  exact (List.pairwise_insertionSort _ _).imp₂ (fun _ _ le ne => lt_of_le_of_ne le fun same => ne (i.key_injective same))
    i.nodup_order

end PassInput

/-! ### The two walks (R50, R51) -/

theorem baselineWalk_cons_of_le {dt : Port → Nat} {avail sum : Nat} {p : Port} (ps : List Port)
    (fits : sum + dt p ≤ avail) :
    baselineWalk dt avail sum (p :: ps) =
      (p :: (baselineWalk dt avail (sum + dt p) ps).1, (baselineWalk dt avail (sum + dt p) ps).2) := if_pos fits

theorem baselineWalk_cons_of_not_le {dt : Port → Nat} {avail sum : Nat} {p : Port} (ps : List Port)
    (fits : ¬sum + dt p ≤ avail) : baselineWalk dt avail sum (p :: ps) = ([], sum) := if_neg fits

/-- The baseline walk keeps the first ports, adds up their draws within the allowance, and stops only at a draw that does
not fit. -/
theorem baselineWalk_spec (dt : Port → Nat) (avail sum : Nat) (ports : List Port) (within : sum ≤ avail) :
    ∃ rest, ports = (baselineWalk dt avail sum ports).1 ++ rest ∧
      (baselineWalk dt avail sum ports).2 = sum + ((baselineWalk dt avail sum ports).1.map dt).sum ∧
      (baselineWalk dt avail sum ports).2 ≤ avail ∧
      ∀ p, rest.head? = some p → avail < (baselineWalk dt avail sum ports).2 + dt p := by
  induction ports generalizing sum with
  | nil => exact ⟨[], by simp [baselineWalk, within]⟩
  | cons p ps ih =>
    by_cases fits : sum + dt p ≤ avail
    · obtain ⟨rest, split, total, bound, stop⟩ := ih _ fits
      rw [baselineWalk_cons_of_le ps fits]
      exact ⟨rest, congrArg (p :: ·) split, by simp [total, Nat.add_assoc], bound, stop⟩
    · rw [baselineWalk_cons_of_not_le ps fits]
      exact ⟨p :: ps, rfl, rfl, within, by simpa using fits⟩

section upgrade

variable (add : Port → Nat) (isFull : Port → Bool) (avail margin : Nat)

theorem upgradeWalk_cons_of_fits {sum : Nat} {p : Port} (ps : List Port)
    (fits : upgradeFits (isFull p) (sum + add p) avail margin = true) :
    upgradeWalk add isFull avail margin sum (p :: ps) =
      (p :: (upgradeWalk add isFull avail margin (sum + add p) ps).1,
        (upgradeWalk add isFull avail margin (sum + add p) ps).2) := if_pos fits

theorem upgradeWalk_cons_of_not_fits {sum : Nat} {p : Port} (ps : List Port)
    (fits : ¬upgradeFits (isFull p) (sum + add p) avail margin = true) :
    upgradeWalk add isFull avail margin sum (p :: ps) = ([], sum) := if_neg fits

/-- The test of R51 as the manual subtracts the margin. -/
theorem upgradeFits_iff (full : Bool) (sum : Nat) :
    upgradeFits full sum avail margin = true ↔
      (sum : Int) ≤ if full = true then (avail : Int) else (avail : Int) - (margin : Int) := by
  cases full with
  | true => simp [upgradeFits]
  | false => simp [upgradeFits]; omega

theorem le_avail_of_upgradeFits {full : Bool} {sum : Nat} (fits : upgradeFits full sum avail margin = true) :
    sum ≤ avail := by
  have test := (upgradeFits_iff avail margin full sum).1 fits
  split_ifs at test <;> omega

/-- The upgrade walk admits the first ports and adds up their differences within the allowance. -/
theorem upgradeWalk_spec (sum : Nat) (ports : List Port) (within : sum ≤ avail) :
    (upgradeWalk add isFull avail margin sum ports).1 <+: ports ∧
      (upgradeWalk add isFull avail margin sum ports).2 =
        sum + ((upgradeWalk add isFull avail margin sum ports).1.map add).sum ∧
      (upgradeWalk add isFull avail margin sum ports).2 ≤ avail := by
  induction ports generalizing sum with
  | nil => simp [upgradeWalk, within]
  | cons p ps ih =>
    by_cases fits : upgradeFits (isFull p) (sum + add p) avail margin = true
    · obtain ⟨pre, total, bound⟩ := ih _ (le_avail_of_upgradeFits _ _ fits)
      rw [upgradeWalk_cons_of_fits _ _ _ _ ps fits]
      exact ⟨List.cons_prefix_cons.2 ⟨rfl, pre⟩, by simp [total, Nat.add_assoc], bound⟩
    · rw [upgradeWalk_cons_of_not_fits _ _ _ _ ps fits]
      exact ⟨List.nil_prefix, rfl, within⟩

/-- Along ports that rise in a key, the upgrade walk admits a port exactly when every port up to it passes its test, each
with the differences up to itself. -/
theorem mem_upgradeWalk_iff (key : Port → Nat) (sum : Nat) {ports : List Port} {p : Port}
    (sorted : ports.Pairwise fun a b => key a < key b) (mem : p ∈ ports) :
    p ∈ (upgradeWalk add isFull avail margin sum ports).1 ↔
      ∀ q ∈ ports, key q ≤ key p →
        upgradeFits (isFull q) (sum + ((ports.filter fun r => decide (key r ≤ key q)).map add).sum) avail margin =
          true := by
  induction ports generalizing sum with
  | nil => simp at mem
  | cons a ps ih =>
    obtain ⟨first, sorted⟩ := List.pairwise_cons.1 sorted
    have upToFirst : (a :: ps).filter (fun r => decide (key r ≤ key a)) = [a] := by
      simpa [List.filter_cons] using first
    have upToLater (q) (hq : q ∈ ps) : (a :: ps).filter (fun r => decide (key r ≤ key q)) =
        a :: ps.filter fun r => decide (key r ≤ key q) := by
      simp [(first q hq).le]
    have firstLe : key a ≤ key p := by
      rcases List.mem_cons.1 mem with rfl | later
      · exact le_rfl
      · exact (first p later).le
    rw [List.forall_mem_cons, upToFirst, List.map_singleton, List.sum_singleton]
    by_cases fits : upgradeFits (isFull a) (sum + add a) avail margin = true
    · simp only [upgradeWalk_cons_of_fits _ _ _ _ ps fits, fits, implies_true, true_and]
      rcases List.mem_cons.1 mem with rfl | later
      · exact iff_of_true List.mem_cons_self fun q hq le => absurd (first q hq) (Nat.not_lt.2 le)
      · have ne : p ≠ a := fun same => (first p later).ne (congrArg key same.symm)
        rw [List.mem_cons, or_iff_right ne, ih _ sorted later]
        refine forall₂_congr fun q hq => ?_
        rw [upToLater q hq, List.map_cons, List.sum_cons, Nat.add_assoc]
    · rw [upgradeWalk_cons_of_not_fits _ _ _ _ ps fits]
      exact iff_of_false List.not_mem_nil fun passes => fits (passes.1 firstLe)

end upgrade

/-- In a list that rises in a key, what stands before a port of a first part is in that part. -/
theorem mem_of_prefix {key : Port → Nat} {pre ports : List Port} {p q : Port}
    (sorted : ports.Pairwise fun a b => key a < key b) (first : pre <+: ports) (hq : q ∈ pre) (hp : p ∈ ports)
    (before : key p < key q) : p ∈ pre := by
  obtain ⟨rest, rfl⟩ := first
  refine (List.mem_append.1 hp).resolve_right fun after => ?_
  exact Nat.lt_asymm before ((List.pairwise_append.1 sorted).2.2 q hq p after)

/-! ### The classes (R46, R47, R50, R51) -/

namespace PassInput

variable (i : PassInput)

/-- The kept ports whose demand is FULL, which the upgrade walk takes in order (R51). -/
def wanting : List Port := i.baseline.1.filter fun p => i.wantsFull p

theorem mem_wanting {p : Port} : p ∈ i.wanting ↔ p ∈ i.baseline.1 ∧ i.wantsFull p = true := List.mem_filter

/-- What the baseline walk makes of the order. -/
theorem baseline_spec :
    ∃ rest, i.order = i.baseline.1 ++ rest ∧ i.baseline.2 = (i.baseline.1.map fun p => i.ports[p].dt).sum ∧
      i.baseline.2 ≤ i.pAvail ∧ ∀ p, rest.head? = some p → i.pAvail < i.baseline.2 + i.ports[p].dt := by
  simpa [baseline] using baselineWalk_spec (fun p => i.ports[p].dt) i.pAvail 0 i.order (Nat.zero_le _)

theorem baseline_prefix : i.baseline.1 <+: i.order := by
  obtain ⟨rest, split, -⟩ := i.baseline_spec
  exact ⟨rest, split.symm⟩

theorem baseline_le : i.baseline.2 ≤ i.pAvail := by
  obtain ⟨-, -, -, bound, -⟩ := i.baseline_spec
  exact bound

theorem baseline_sorted : i.baseline.1.Pairwise fun p q => i.key p < i.key q :=
  i.order_sorted.sublist i.baseline_prefix.sublist

theorem wanting_sorted : i.wanting.Pairwise fun p q => i.key p < i.key q := i.baseline_sorted.filter _

theorem nodup_baseline : i.baseline.1.Nodup := i.nodup_order.sublist i.baseline_prefix.sublist

/-- What the upgrade walk makes of the kept ports whose demand is FULL. -/
theorem upgrade_spec :
    i.upgrade.1 <+: i.wanting ∧
      i.upgrade.2 = i.baseline.2 + (i.upgrade.1.map fun p => i.ports[p].df - i.ports[p].dt).sum ∧
      i.upgrade.2 ≤ i.pAvail :=
  upgradeWalk_spec _ _ _ _ _ _ i.baseline_le

theorem upgrade_prefix : i.upgrade.1 <+: i.wanting := i.upgrade_spec.1

theorem mem_wanting_of_mem_upgrade {p : Port} (h : p ∈ i.upgrade.1) : p ∈ i.wanting := i.upgrade_prefix.mem h

theorem mem_baseline_of_mem_upgrade {p : Port} (h : p ∈ i.upgrade.1) : p ∈ i.baseline.1 :=
  (i.mem_wanting.1 (i.mem_wanting_of_mem_upgrade h)).1

theorem candidate_of_mem_baseline {p : Port} (h : p ∈ i.baseline.1) : i.ports[p].candidate = true :=
  (i.mem_order.1 (i.baseline_prefix.mem h)).1

theorem classOf_eq_none_iff {p : Port} : i.classOf p = .none ↔ i.ports[p].candidate = false := by
  unfold classOf
  split_ifs <;> simp_all

theorem classOf_eq_full_iff {p : Port} : i.classOf p = .full ↔ p ∈ i.upgrade.1 := by
  have chosen (h : p ∈ i.upgrade.1) := i.candidate_of_mem_baseline (i.mem_baseline_of_mem_upgrade h)
  unfold classOf
  split_ifs <;> simp_all

theorem classOf_eq_trickle_iff {p : Port} : i.classOf p = .trickle ↔ p ∈ i.baseline.1 ∧ p ∉ i.upgrade.1 := by
  have kept (h : p ∈ i.baseline.1) := i.candidate_of_mem_baseline h
  unfold classOf
  split_ifs <;> simp_all

theorem classOf_eq_shed_iff {p : Port} :
    i.classOf p = .shed ↔ i.ports[p].candidate = true ∧ p ∉ i.baseline.1 := by
  have chosen (h : p ∈ i.upgrade.1) := i.mem_baseline_of_mem_upgrade h
  unfold classOf
  split_ifs <;> simp_all

theorem not_mem_baseline_of_unfed {p : Port} (unfed : i.classOf p = .shed ∨ i.classOf p = .none) :
    p ∉ i.baseline.1 := by
  rcases unfed with shed | none
  · exact (i.classOf_eq_shed_iff.1 shed).2
  · exact fun kept => Bool.false_ne_true
      ((i.classOf_eq_none_iff.1 none).symm.trans (i.candidate_of_mem_baseline kept))

theorem heldOf_iff {p : Port} : i.heldOf p = true ↔ i.classOf p = .trickle ∧ i.wantsFull p = true := by
  simp [heldOf]

theorem classOf_of_isCapped {p : Port} (capped : i.isCapped p = true) : i.classOf p = .shed := by
  refine i.classOf_eq_shed_iff.2 ⟨(i.isCapped_iff.1 capped).1, fun kept => ?_⟩
  simpa [admitted, capped] using i.mem_order_iff_admitted.1 (i.baseline_prefix.mem kept)

/-! ### What the walks decide -/

/-- The sum that the upgrade walk tests for a port: the baseline sum with the differences of the ports up to it (R51). -/
def upTo (q : Port) : Nat :=
  i.baseline.2 + ((i.baseline.1.filter fun r => i.wantsFull r && decide (i.key r ≤ i.key q)).map
    fun r => i.ports[r].df - i.ports[r].dt).sum

theorem upTo_eq (q : Port) :
    i.upTo q = i.baseline.2 +
      ((i.wanting.filter fun r => decide (i.key r ≤ i.key q)).map fun r => i.ports[r].df - i.ports[r].dt).sum := by
  simp only [upTo, wanting, List.filter_filter, Bool.and_comm]

/-- A kept port whose demand is FULL is admitted exactly when it and every such port before it pass their test (R51). -/
theorem mem_upgrade_iff {p : Port} (kept : p ∈ i.baseline.1) (wants : i.wantsFull p = true) :
    p ∈ i.upgrade.1 ↔
      ∀ q ∈ i.baseline.1, i.wantsFull q = true → i.key q ≤ i.key p →
        (i.upTo q : Int) ≤ if i.ports[q].feed = .full then (i.pAvail : Int) else (i.pAvail : Int) - (i.margin : Int) := by
  have law : p ∈ i.upgrade.1 ↔ ∀ q ∈ i.wanting, i.key q ≤ i.key p →
      upgradeFits (decide (i.ports[q].feed = .full)) (i.upTo q) i.pAvail i.margin = true := by
    simp only [upTo_eq]
    exact mem_upgradeWalk_iff _ _ _ _ _ _ i.wanting_sorted (i.mem_wanting.2 ⟨kept, wants⟩)
  simpa only [mem_wanting, and_imp, upgradeFits_iff, decide_eq_true_eq] using law

/-- A kept port whose demand is TRICKLE is TRICKLE and not held. -/
theorem classOf_of_not_wantsFull {p : Port} (kept : p ∈ i.baseline.1) (content : i.wantsFull p = false) :
    i.classOf p = .trickle ∧ i.heldOf p = false := by
  have notFull (admitted : p ∈ i.upgrade.1) : False := by
    simpa [content] using (i.mem_wanting.1 (i.mem_wanting_of_mem_upgrade admitted)).2
  exact ⟨i.classOf_eq_trickle_iff.2 ⟨kept, notFull⟩, by simp [heldOf, content]⟩

/-- A kept port whose demand is FULL is FULL, or TRICKLE and held. -/
theorem classOf_of_wantsFull {p : Port} (kept : p ∈ i.baseline.1) (wants : i.wantsFull p = true) :
    i.classOf p = .full ∧ i.heldOf p = false ∨ i.classOf p = .trickle ∧ i.heldOf p = true := by
  by_cases admitted : p ∈ i.upgrade.1
  · have full := i.classOf_eq_full_iff.2 admitted
    exact .inl ⟨full, by simp [heldOf, full]⟩
  · have trickle := i.classOf_eq_trickle_iff.2 ⟨kept, admitted⟩
    exact .inr ⟨trickle, i.heldOf_iff.2 ⟨trickle, wants⟩⟩

/-- No SHED port precedes a kept one, and no held port precedes a FULL one. -/
theorem order_classes :
    i.order.Pairwise fun p q =>
      (i.classOf p = .shed → i.classOf q = .shed) ∧ (i.heldOf p = true → i.classOf q ≠ .full) := by
  refine i.order_sorted.imp_of_mem fun {p q} hp hq before => ⟨fun shed => ?_, fun held full => ?_⟩
  · obtain ⟨-, notKept⟩ := i.classOf_eq_shed_iff.1 shed
    exact i.classOf_eq_shed_iff.2 ⟨(i.mem_order.1 hq).1, fun kept =>
      notKept (mem_of_prefix i.order_sorted i.baseline_prefix kept hp before)⟩
  · obtain ⟨trickle, wants⟩ := i.heldOf_iff.1 held
    obtain ⟨kept, notFull⟩ := i.classOf_eq_trickle_iff.1 trickle
    exact notFull (mem_of_prefix i.wanting_sorted i.upgrade_prefix (i.classOf_eq_full_iff.1 full)
      (i.mem_wanting.2 ⟨kept, wants⟩) before)

/-- What the baseline walk leaves of the order is SHED. -/
theorem classOf_of_mem_rest {rest : List Port} (split : i.order = i.baseline.1 ++ rest) {p : Port} (h : p ∈ rest) :
    i.classOf p = .shed := by
  have distinct := List.nodup_append.1 (split ▸ i.nodup_order)
  have ordered : p ∈ i.order := split ▸ List.mem_append_right _ h
  exact i.classOf_eq_shed_iff.2 ⟨(i.mem_order.1 ordered).1, fun kept => distinct.2.2 p kept p h rfl⟩

end PassInput

/-- A sum over all ports that counts those of a list is the sum over the list. -/
theorem sum_allPorts_ite {ports : List Port} (distinct : ports.Nodup) (f : Port → Nat) :
    (allPorts.map fun p => if p ∈ ports then f p else 0).sum = (ports.map f).sum := by
  rw [← List.sum_toFinset f distinct]
  calc (allPorts.map fun p => if p ∈ ports then f p else 0).sum
    _ = ∑ p : Port, if p ∈ ports then f p else 0 := (Fin.sum_univ_def _).symm
    _ = ∑ p ∈ ports.toFinset, f p := by simp [← List.mem_toFinset]

namespace PassInput

variable (i : PassInput)

/-- The budgeted total is what the classes cost. -/
theorem upgrade_total {cost : Port → Nat} (draws : ∀ p : Port, i.ports[p].dt ≤ i.ports[p].df)
    (full : ∀ p, i.classOf p = .full → cost p = i.ports[p].df)
    (trickle : ∀ p, i.classOf p = .trickle → cost p = i.ports[p].dt)
    (unfed : ∀ p, i.classOf p = .shed ∨ i.classOf p = .none → cost p = 0) :
    i.upgrade.2 = (allPorts.map cost).sum := by
  have split (p : Port) : cost p =
      (if p ∈ i.baseline.1 then i.ports[p].dt else 0) +
        if p ∈ i.upgrade.1 then i.ports[p].df - i.ports[p].dt else 0 := by
    have := draws p
    cases h : i.classOf p with
    | full =>
      have admitted := i.classOf_eq_full_iff.1 h
      rw [full p h, if_pos admitted, if_pos (i.mem_baseline_of_mem_upgrade admitted)]
      omega
    | trickle =>
      obtain ⟨kept, notFull⟩ := i.classOf_eq_trickle_iff.1 h
      rw [trickle p h, if_pos kept, if_neg notFull]
      rfl
    | shed | none =>
      have notKept := i.not_mem_baseline_of_unfed (p := p) (by simp [h])
      rw [unfed p (by simp [h]), if_neg notKept, if_neg fun admitted => notKept (i.mem_baseline_of_mem_upgrade admitted)]
  obtain ⟨-, -, baselineSum, -⟩ := i.baseline_spec
  obtain ⟨first, total, -⟩ := i.upgrade_spec
  have distinct : i.upgrade.1.Nodup := (i.nodup_baseline.filter _).sublist first.sublist
  rw [funext split, List.sum_map_add, sum_allPorts_ite i.nodup_baseline, sum_allPorts_ite distinct, total, baselineSum]

end PassInput

/-- Settles O40: the order rises in its key (`PassInput.order_sorted`), and each walk takes its first ports
(`baselineWalk_spec`, `upgradeWalk_spec`, `mem_upgradeWalk_iff`). -/
theorem passLaw : Obligations.PassLaw := by
  refine ⟨fun i draws => ⟨⟨i.nodup_order, fun _ => i.mem_order, i.order_sorted.imp fun {p q} => (i.key_lt_iff p q).1⟩,
    ?_, ⟨?_, i.upgrade_spec.2.2⟩, fun _ => i.classOf_eq_none_iff, fun _ => i.classOf_of_isCapped, i.order_classes⟩, ?_⟩
  · obtain ⟨rest, split, sum, bound, stop⟩ := i.baseline_spec
    exact ⟨rest, split, sum, bound, stop, fun _ => i.classOf_of_mem_rest split⟩
  · refine i.upgrade_total (fun p => (draws p).2) (fun p h => ?_) (fun p h => ?_) fun p h => ?_
    · rw [h]
    · rw [h]
    · rcases h with h | h <;> rw [h]
  · intro i p upTo _ sums kept
    obtain rfl : upTo = i.upTo := funext sums
    exact ⟨i.classOf_of_not_wantsFull kept, fun wants =>
      ⟨i.classOf_of_wantsFull kept wants, i.classOf_eq_full_iff.trans (i.mem_upgrade_iff kept wants)⟩⟩

end Sys2Proof.Machine
